-- ==== Sys2Proof/Word.lean ====
section
/-! DEFINITION. The word types of the SPI command framer (00_scope.md R9, R15): bit 0 is the least
significant bit of every value, and every value is unsigned (R13). -/

namespace Sys2Proof

/-- A host register or a command word: 32 bits (10_state.md R20, 30_encoding.md R70). -/
abbrev Word := BitVec 32

/-- A window coordinate, a pixel color or a chip identity: 16 bits (00_scope.md R9). -/
abbrev Half := BitVec 16

/-- An opcode, parameter, register address or register value on the wire: 8 bits (00_scope.md R9). -/
abbrev Byte := BitVec 8

/-- The level of a line: 1 bit (00_scope.md R10). -/
abbrev Level := BitVec 1

end Sys2Proof
end

