-- ==== Sys2Proof/Config.lean ====
section
/-! DEFINITION. What is fixed when the block is built: the parameters of 00_scope.md R7 as one
configuration record, the constraints of R8, and the free values of the oracle (R12). -/

namespace Sys2Proof.Config

/-- One entry of `INIT_TABLE`: an opcode byte and its parameter bytes (10_state.md R39). -/
structure InitEntry where
  op : Byte
  params : List Byte
  deriving DecidableEq, Repr, Inhabited

/-- The configuration record of 00_scope.md R7, in the order of its table, and the platform's
`FRAMER_BASE` (20_memory.md R59). -/
structure Params where
  /-- `CHIP_ID_EXPECTED` -/
  chipIdExpected : Half
  /-- `ID_RETRIES`; the pseudocode of 43_handshake.md R155 writes its one retry out and does not read
  this entry, and R157 and R165 allow no other number whatever it holds (log 4) -/
  idRetries : Nat
  /-- `BLINK_PAIRS` -/
  blinkPairs : Nat
  /-- `T_RESET_US`, microseconds -/
  tResetUs : Nat
  /-- `T_SLPOUT_US`, microseconds -/
  tSlpoutUs : Nat
  /-- `T_DISPON_US`, microseconds -/
  tDisponUs : Nat
  /-- `T_BLINK_US`, microseconds -/
  tBlinkUs : Nat
  /-- `T_DCX_US`, microseconds -/
  tDcxUs : Nat
  /-- `READ_FLAG`, or-ed into the address byte of a touch read (40_framing.md R97) -/
  readFlag : Byte
  /-- `IRQ_IDLE_LEVEL` -/
  irqIdleLevel : Level
  /-- `DC_CMD_LEVEL` -/
  dcCmdLevel : Level
  /-- `DC_DATA_LEVEL` -/
  dcDataLevel : Level
  /-- `DISP_MODE` -/
  dispMode : BitVec 2
  /-- `DISP_DIV` -/
  dispDiv : Half
  /-- `DISP_CS` -/
  dispCs : Level
  /-- `TOUCH_CS` -/
  touchCs : Level
  /-- `TOUCH_DIV` -/
  touchDiv : Half
  /-- `MODE_PREF` -/
  modePref : BitVec 2
  /-- `MODE_ALT` -/
  modeAlt : BitVec 2
  /-- `OP_SWRESET` -/
  opSwreset : Byte
  /-- `OP_SLPOUT` -/
  opSlpout : Byte
  /-- `OP_DISPON` -/
  opDispon : Byte
  /-- `OP_CASET` -/
  opCaset : Byte
  /-- `OP_RASET` -/
  opRaset : Byte
  /-- `OP_RAMWR` -/
  opRamwr : Byte
  /-- `INIT_TABLE` (10_state.md R39) -/
  initTable : List InitEntry
  /-- `TOUCH_ID_BASE`, an address below 0x80 -/
  touchIdBase : Byte
  /-- `TREG_SYS_CTRL1`, an address below 0x80 -/
  tregSysCtrl1 : Byte
  /-- `TVAL_SOFTRESET` -/
  tvalSoftreset : Byte
  /-- `TREG_SYS_CTRL2`, an address below 0x80 -/
  tregSysCtrl2 : Byte
  /-- `TVAL_CLKEN` -/
  tvalClken : Byte
  /-- `TREG_GPIO_AF`, an address below 0x80 -/
  tregGpioAf : Byte
  /-- `TVAL_GPIO_AF` -/
  tvalGpioAf : Byte
  /-- `TREG_GPIO_DIR`, an address below 0x80 -/
  tregGpioDir : Byte
  /-- `TVAL_GPIO_DIR` -/
  tvalGpioDir : Byte
  /-- `TREG_GPIO_SET`, an address below 0x80 -/
  tregGpioSet : Byte
  /-- `TREG_GPIO_CLR`, an address below 0x80 -/
  tregGpioClr : Byte
  /-- `TOUCH_GPIO_MASK`, one bit set -/
  touchGpioMask : Byte
  /-- `TOUCH_DUMMY` -/
  touchDummy : Byte
  /-- `P_MAX`, the largest `NPARAM` of a `DCMD` (40_framing.md R90) -/
  pMax : Nat
  /-- `FRAMER_BASE`, the address of the register window in the host's address space (20_memory.md R59) -/
  framerBase : Nat
  deriving DecidableEq, Repr

/-- The constraints of 00_scope.md R8. A configuration that violates one has no meaning: every step
refuses it (`Refusal.illegalConfiguration`). -/
abbrev Params.Legal (p : Params) : Prop :=
  (p.touchIdBase ≤ 0x7E#8 ∧ p.tregSysCtrl1 < 0x80#8 ∧ p.tregSysCtrl2 < 0x80#8 ∧
    p.tregGpioAf < 0x80#8 ∧ p.tregGpioDir < 0x80#8 ∧ p.tregGpioSet < 0x80#8 ∧
    p.tregGpioClr < 0x80#8) ∧
  (p.dcCmdLevel ≠ p.dcDataLevel ∧ p.dispCs ≠ p.touchCs ∧ p.modePref ≠ p.modeAlt) ∧
  (5000 ≤ p.tResetUs ∧ 100000 ≤ p.tSlpoutUs ∧ 20000 ≤ p.tDisponUs ∧ 300000 ≤ p.tBlinkUs) ∧
  (p.touchGpioMask ≠ 0#8 ∧ p.touchGpioMask &&& (p.touchGpioMask - 1#8) = 0#8)

/-- `DISP_DIV` of the reset state: OPEN in 00_scope.md R7, so a constant with no value (log 2). -/
opaque openDispDiv : Half

/-- `TOUCH_DIV` of the reset state: OPEN in 00_scope.md R7 (log 2). -/
opaque openTouchDiv : Half

/-- `T_DCX_US` of the reset state: OPEN in 00_scope.md R7 (log 2). -/
opaque openTDcxUs : Nat

/-- `INIT_TABLE` of the reset state: OPEN in 00_scope.md R7 (log 2). -/
opaque openInitTable : List InitEntry

/-- `FRAMER_BASE` of the reset state: OPEN in 20_memory.md R59 (log 2). -/
opaque openFramerBase : Nat

/-- The configuration of `State.reset`: the values of 00_scope.md R7's table, the OPEN ones opaque
(logs 2, 3). -/
def defaults : Params where
  chipIdExpected := 0x0811#16
  idRetries := 1
  blinkPairs := 3
  tResetUs := 5000
  tSlpoutUs := 100000
  tDisponUs := 20000
  tBlinkUs := 300000
  tDcxUs := openTDcxUs
  readFlag := 0x80#8
  irqIdleLevel := 1#1
  dcCmdLevel := 0#1
  dcDataLevel := 1#1
  dispMode := 0#2
  dispDiv := openDispDiv
  dispCs := 0#1
  touchCs := 1#1
  touchDiv := openTouchDiv
  modePref := 0#2
  modeAlt := 1#2
  opSwreset := 0x01#8
  opSlpout := 0x11#8
  opDispon := 0x29#8
  opCaset := 0x2A#8
  opRaset := 0x2B#8
  opRamwr := 0x2C#8
  initTable := openInitTable
  touchIdBase := 0x00#8
  tregSysCtrl1 := 0x03#8
  tvalSoftreset := 0x02#8
  tregSysCtrl2 := 0x04#8
  tvalClken := 0x00#8
  tregGpioAf := 0x17#8
  tvalGpioAf := 0x04#8
  tregGpioDir := 0x13#8
  tvalGpioDir := 0x04#8
  tregGpioSet := 0x10#8
  tregGpioClr := 0x11#8
  touchGpioMask := 0x04#8
  touchDummy := 0x00#8
  pMax := 32
  framerBase := openFramerBase

/-- The oracle's answer where the state holds none: byte `i` of the frame numbered `frame`. No law,
no value (00_scope.md R12; log 5). -/
opaque freeRxByte (frame i : Nat) : Byte

/-- The oracle's level for the sample numbered `sample`, where the state holds none (00_scope.md
R12; log 5). -/
opaque freeLevel (sample : Nat) : Level

/-- Parameter byte `i` of the `DCMD` word `w` where `i` lies past the end of the 32 bytes `buffer` of
10_state.md R28, which a `P_MAX` above 32 lets a command ask for: the spec states no byte there
(log 25). -/
opaque freeParamByte (w : Word) (buffer : List Byte) (i : Nat) : Byte

end Sys2Proof.Config
end

