-- ==== Sys2Proof/Syntax.lean ====
section
/-! DEFINITION. The host commands: one constructor per row of opcode_table.json (30_encoding.md R77).
The fields have the widths of the command word's fields (R71 to R76), so a word whose operand the
block rejects (`TADDR` with bit 7 set, `NPARAM` over `P_MAX`) is still a command of this type. -/

namespace Sys2Proof

inductive Instr where
  /-- `NOP` (40_framing.md R102) -/
  | nop
  /-- `DCMD DOP, NPARAM` (40_framing.md R103) -/
  | dcmd (dop nparam : Byte)
  /-- `TRD TADDR` (40_framing.md R104) -/
  | trd (taddr : Byte)
  /-- `TWR TADDR, TVAL` (40_framing.md R105) -/
  | twr (taddr tval : Byte)
  /-- `FILL COLOR` (42_fill.md R140) -/
  | fill (color : Half)
  /-- `BRINGUP` (41_bringup.md R120) -/
  | bringup
  /-- `HANDSHAKE` (43_handshake.md R155) -/
  | handshake
  deriving DecidableEq, Repr

end Sys2Proof
end

