-- ==== Sys2Proof/WellFormed.lean ====
section
/-! DEFINITION. Well-formed commands: the operands lie in the legal ranges of 30_encoding.md R76,
`NPARAM` in `0 .. P_MAX` of the configuration and `TADDR` in `0x00 .. 0x7F`. The encoding holds the
other values too; the block rejects those at acceptance (R78, R80), which the meanings say. -/

namespace Sys2Proof

/-- The operand ranges of 30_encoding.md R76. -/
def Instr.wellFormed (cfg : Config.Params) : Instr → Bool
  | .nop => true
  | .dcmd _ nparam => decide (nparam.toNat ≤ cfg.pMax)
  | .trd taddr => !taddr.getLsbD 7
  | .twr taddr _ => !taddr.getLsbD 7
  | .fill _ => true
  | .bringup => true
  | .handshake => true

end Sys2Proof
end

