-- ==== Sys2Proof/Decode.lean ====
section
/-! DEFINITION. Decoding and encoding of the 32-bit command word (30_encoding.md R70 to R79), and
the assembler lines of R86 (log 23). -/

namespace Sys2Proof

/-- Why a word is no command; both are rejected with `E_ILLEGAL` (30_encoding.md R78). -/
inductive DecodeError where
  /-- `OP` is `0x07` to `0xFF` -/
  | reservedOpcode
  /-- a reserved bit of the format is 1 -/
  | reservedBits
  deriving DecidableEq, Repr

/-- The reserved bits of each format, a mask over the word (30_encoding.md R71 to R75). -/
def reservedMask : BitVec 8 → Option Word
  | 0x00#8 => some 0x00FFFFFF#32
  | 0x01#8 => some 0x0000FF00#32
  | 0x02#8 => some 0x00FFFF00#32
  | 0x03#8 => some 0x00FF0000#32
  | 0x04#8 => some 0x00FF0000#32
  | 0x05#8 => some 0x00FFFFFF#32
  | 0x06#8 => some 0x00FFFFFF#32
  | _ => none

/-- `OP`, bits 31:24 of a command word (30_encoding.md R76). -/
def opField (w : Word) : Byte := w.extractLsb' 24 8

/-- `DOP`, bits 23:16, format D (30_encoding.md R72). -/
def dopField (w : Word) : Byte := w.extractLsb' 16 8

/-- Bits 15:8: `TADDR` of format W (30_encoding.md R74). -/
def midField (w : Word) : Byte := w.extractLsb' 8 8

/-- Bits 7:0: `NPARAM` of format D, `TADDR` of format R, `TVAL` of format W (30_encoding.md R76). -/
def lowField (w : Word) : Byte := w.extractLsb' 0 8

/-- `COLOR`, bits 15:0, format F (30_encoding.md R75). -/
def colorField (w : Word) : Half := w.extractLsb' 0 16

/-- The command of a legal opcode, its operands extracted as 30_encoding.md R76 says. -/
def operands (op : Byte) (w : Word) : Option Instr :=
  match op with
  | 0x00#8 => some .nop
  | 0x01#8 => some (.dcmd (dopField w) (lowField w))
  | 0x02#8 => some (.trd (lowField w))
  | 0x03#8 => some (.twr (midField w) (lowField w))
  | 0x04#8 => some (.fill (colorField w))
  | 0x05#8 => some .bringup
  | 0x06#8 => some .handshake
  | _ => none

/-- Decode any word: the opcode chooses the format (30_encoding.md R79), then the format's reserved
bits must be zero (R78). -/
def decodeWord (w : Word) : Except DecodeError Instr :=
  match reservedMask (opField w), operands (opField w) w with
  | some mask, some i => if w &&& mask = 0#32 then .ok i else .error .reservedBits
  | _, _ => .error .reservedOpcode

/-- The opcode of a command (30_encoding.md R77). -/
def Instr.opcode : Instr → Byte
  | .nop => 0x00#8
  | .dcmd _ _ => 0x01#8
  | .trd _ => 0x02#8
  | .twr _ _ => 0x03#8
  | .fill _ => 0x04#8
  | .bringup => 0x05#8
  | .handshake => 0x06#8

/-- A field of a word: `v` with its bit 0 at bit `lo` of the word. -/
def place {n : Nat} (v : BitVec n) (lo : Nat) : Word := v.setWidth 32 <<< lo

/-- The operand fields of a command's word, the reserved bits zero (30_encoding.md R71 to R75). -/
def Instr.payload : Instr → Word
  | .nop => 0#32
  | .dcmd dop nparam => place dop 16 ||| place nparam 0
  | .trd taddr => place taddr 0
  | .twr taddr tval => place taddr 8 ||| place tval 0
  | .fill color => place color 0
  | .bringup => 0#32
  | .handshake => 0#32

/-- The word of a command (30_encoding.md R70). -/
def encode (i : Instr) : Word := place i.opcode 24 ||| i.payload

/-- The command the decoder reads from the bits `w` of a table row. A command is one 32-bit word
(30_encoding.md R70, R79), so the bits above `nbits` are zero and so are those above bit 31. -/
def decodeTableWord (nbits w : Nat) : Option Instr :=
  match decodeWord (BitVec.ofNat 32 (w % 2 ^ nbits)) with
  | .ok i => some i
  | .error _ => none

/-- An assembler line of 30_encoding.md R86: a mnemonic with its operands as numbers. -/
inductive Asm where
  | nop
  | dcmd (dop nparam : Nat)
  | trd (taddr : Nat)
  | twr (taddr tval : Nat)
  | fill (color : Nat)
  | bringup
  | handshake
  deriving DecidableEq, Repr

/-- The encoding column of 30_encoding.md R86: `none` is an assembly error, an operand that does not
fit its field; an operand the field holds but the block rejects assembles. -/
def Asm.assemble : Asm → Option Word
  | .nop => some 0x00000000#32
  | .dcmd dop nparam =>
    if dop < 256 ∧ nparam < 256 then
      some (0x01000000#32 ||| (BitVec.ofNat 32 dop <<< 16) ||| BitVec.ofNat 32 nparam)
    else none
  | .trd taddr =>
    if taddr < 256 then some (0x02000000#32 ||| BitVec.ofNat 32 taddr) else none
  | .twr taddr tval =>
    if taddr < 256 ∧ tval < 256 then
      some (0x03000000#32 ||| (BitVec.ofNat 32 taddr <<< 8) ||| BitVec.ofNat 32 tval)
    else none
  | .fill color =>
    if color < 65536 then some (0x04000000#32 ||| BitVec.ofNat 32 color) else none
  | .bringup => some 0x05000000#32
  | .handshake => some 0x06000000#32

end Sys2Proof
end

