-- ==== Sys2Proof/Machine/State.lean ====
section
/-! DEFINITION. The state of the block as plain data: the host-visible registers (10_state.md R20 to
R29), the internal state (R30 to R39), the event trace (00_scope.md R10), and what the outside world
will do (the host's accesses, the interleaving, the devices' answers). -/

namespace Sys2Proof.Machine

/-- Error codes of 60_exceptions.md R180; `none` is code 0. -/
inductive ErrCode where
  | none
  /-- `E_ILLEGAL` -/
  | illegal
  /-- `E_BUSY` -/
  | busy
  /-- `E_ADDR` -/
  | addr
  /-- `E_PARAM` -/
  | param
  /-- `E_WINDOW` -/
  | window
  deriving DecidableEq, Repr

/-- `ACT_OP` (10_state.md R31): the command the sequencer is running. -/
inductive ActOp where
  | none
  | dcmd
  | trd
  | twr
  | fill
  | bringup
  | handshake
  deriving DecidableEq, Repr

/-- `BU_STATE` (10_state.md R32). Codes 9 to 15 are never held, so they have no constructor. -/
inductive BuState where
  | idle
  | reset
  | sleepInClear
  | config
  | sleepExit
  | settleSlpout
  | displayOn
  | settleDispon
  | done
  deriving DecidableEq, Repr

/-- `HS_STATE` (10_state.md R34). Codes 12 to 15 are never held, so they have no constructor. -/
inductive HsState where
  | idle
  | cfgPref
  | readId1
  | cfgAlt
  | readId2
  | checkIrq
  | softReset
  | clkEn
  | gpioCfg
  | blink
  | pass
  | fail
  deriving DecidableEq, Repr

/-- `HS_RESULT` (10_state.md R35). -/
inductive HsResult where
  | none
  | pass
  | failId
  | failIrq
  deriving DecidableEq, Repr

/-- `TOUCH_MODE` (10_state.md R36). -/
inductive TouchMode where
  | pref
  | alt
  deriving DecidableEq, Repr

/-- `DC_OUT` (10_state.md R37). -/
inductive DcState where
  | cmd
  | data
  deriving DecidableEq, Repr

/-- The fields of a `SpiCfg` event (00_scope.md R10) and of `SPI_CFG` (10_state.md R38). -/
structure SpiConfig where
  mode : BitVec 2
  div : Half
  cs : Level
  deriving DecidableEq, Repr

/-- The bytes of one frame: `unit` repeated `count` times, the `replicate(count, unit)` of
00_scope.md R13 (log 13). -/
structure Burst where
  unit : List Byte
  count : Nat
  deriving DecidableEq, Repr

/-- The oracle's answer to one `Xfer` (00_scope.md R12): the bytes the state held for it, and the
number of the frame, which names the free bytes after them (log 5). -/
structure RxAnswer where
  given : List Byte
  frame : Nat
  deriving DecidableEq, Repr

/-- Transport events with the oracle's answers (00_scope.md R10). -/
inductive Event where
  | spiCfg (c : SpiConfig)
  | dc (level : Level)
  | xfer (tx : Burst) (rx : RxAnswer)
  | irqSample (level : Level)
  | delay (us : Nat)
  deriving DecidableEq, Repr

/-- A transport event as the block emits it, without the oracle's answer (00_scope.md R10). -/
inductive Sent where
  | spiCfg (c : SpiConfig)
  | dc (level : Level)
  | xfer (tx : List Byte)
  | irqSample
  | delay (us : Nat)
  deriving DecidableEq, Repr

/-- `PARAM0` to `PARAM7`, the parameter buffer (10_state.md R28); the latch `L_P` has the same
packing (R30). -/
structure ParamRegs where
  p0 : Word
  p1 : Word
  p2 : Word
  p3 : Word
  p4 : Word
  p5 : Word
  p6 : Word
  p7 : Word
  deriving DecidableEq, Repr

/-- The variables of the running pseudocode that are bound in one sequencer step and read in a later
one: `hi` and `id` of 43_handshake.md R156, `lvl` of R155 (log 11). -/
structure Vars where
  hi : Byte
  id : Half
  lvl : Level
  deriving DecidableEq, Repr

/-- What the host does next: an access of the register window by byte offset (00_scope.md R14,
20_memory.md R55; `width` in bytes) or by an address of the host's address space, in which the window
begins at `FRAMER_BASE` (20_memory.md R59), or the `poll` of 30_encoding.md R87. -/
inductive HostOp where
  | read (off width : Nat)
  | write (off width : Nat) (v : Word)
  | readAt (addr width : Nat)
  | writeAt (addr width : Nat) (v : Word)
  | poll
  deriving DecidableEq, Repr

/-- The value a host read returned (20_memory.md R57). -/
structure HostRead where
  off : Nat
  value : Word
  deriving DecidableEq, Repr

/-- Who moves at a step: the host, the sequencer (00_scope.md R11), or the block's reset input
(70_reset_and_hazards.md R200). -/
inductive Turn where
  | host
  | sequencer
  | reset
  deriving DecidableEq, Repr

structure State where
  /-- the configuration record (00_scope.md R7), `INIT_TABLE` in it; no step writes it -/
  cfg : Config.Params
  /-- `CMD` (10_state.md R21) -/
  cmd : Word
  /-- `STATUS.DONE` (R22) -/
  done : Bool
  /-- `STATUS.ERR` (R22) -/
  err : Bool
  /-- `STATUS.ERRCODE` (R22) -/
  errCode : ErrCode
  /-- `STATUS.HS_RESULT` (R22, R35) -/
  hsResult : HsResult
  /-- `STATUS.HS_FALLBACK` (R22) -/
  hsFallback : Bool
  /-- `TOUCH_MODE`, visible as `STATUS.TOUCH_ALT` (R36) -/
  touchMode : TouchMode
  /-- `STATUS.BU_DONE` (R22) -/
  buDone : Bool
  /-- `BU_STATE`, visible as `STATUS[19:16]` (R32) -/
  buState : BuState
  /-- `HS_STATE`, visible as `STATUS[23:20]` (R34) -/
  hsState : HsState
  /-- `ARG0` (R24) -/
  arg0 : Word
  /-- `ARG1` (R25) -/
  arg1 : Word
  /-- `RDATA[7:0]`; bits 31:8 read 0 (R26) -/
  rdata : Byte
  /-- `CHIPID[15:0]`; bits 31:16 read 0 (R27) -/
  chipId : Half
  /-- `PARAM0` to `PARAM7` (R28) -/
  params : ParamRegs
  /-- `L_CMD` (R30) -/
  lCmd : Word
  /-- `L_ARG0` (R30) -/
  lArg0 : Word
  /-- `L_ARG1` (R30) -/
  lArg1 : Word
  /-- `L_P[0..31]` (R30) -/
  lP : ParamRegs
  /-- `ACT_OP` (R31); `STATUS.BUSY` is a view of it -/
  actOp : ActOp
  /-- `seq` (R33): the number of the next statement in the running command's pseudocode, `none` for
  `END` (log 11) -/
  seq : Option Nat
  /-- `BU_IDX` (R32) -/
  buIdx : Nat
  /-- `HS_BLINK` (R33) -/
  hsBlink : Nat
  /-- the pseudocode's variables that live across steps (log 11) -/
  vars : Vars
  /-- `DC_OUT` (R37) -/
  dcOut : DcState
  /-- `SPI_CFG` (R38), `none` before the first `SpiCfg` -/
  spiCfg : Option SpiConfig
  /-- the event trace, oldest first (00_scope.md R10) -/
  trace : List Event
  /-- the values the host's reads returned, oldest first (log 8) -/
  readLog : List HostRead
  /-- what the host will do, next first (log 8) -/
  hostQueue : List HostOp
  /-- who moves at the next steps (log 6) -/
  turns : List Turn
  /-- the bytes the devices will answer, one list per frame to come (log 5) -/
  frameAnswers : List (List Byte)
  /-- the levels the interrupt line will have at the samples to come (log 5) -/
  levelAnswers : List Level
  /-- how many frames have been answered: the number of the next free draw (log 5) -/
  frameDraws : Nat
  /-- how many samples have been answered: the number of the next free draw (log 5) -/
  levelDraws : Nat
  deriving DecidableEq, Repr

/-- The eight parameter registers after reset (10_state.md R28). -/
def ParamRegs.zero : ParamRegs :=
  { p0 := 0#32, p1 := 0#32, p2 := 0#32, p3 := 0#32, p4 := 0#32, p5 := 0#32, p6 := 0#32, p7 := 0#32 }

/-- The machine right after reset (70_reset_and_hazards.md R200), with an empty trace, an outside
world that does nothing yet, and the configuration of 00_scope.md R7. -/
def State.reset : State where
  cfg := Config.defaults
  cmd := 0#32
  done := false
  err := false
  errCode := .none
  hsResult := .none
  hsFallback := false
  touchMode := .pref
  buDone := false
  buState := .idle
  hsState := .idle
  arg0 := 0#32
  arg1 := 0#32
  rdata := 0#8
  chipId := 0#16
  params := ParamRegs.zero
  lCmd := 0#32
  lArg0 := 0#32
  lArg1 := 0#32
  lP := ParamRegs.zero
  actOp := .none
  seq := none
  buIdx := 0
  hsBlink := 0
  vars := { hi := 0#8, id := 0#16, lvl := 0#1 }
  dcOut := .cmd
  spiCfg := none
  trace := []
  readLog := []
  hostQueue := []
  turns := []
  frameAnswers := []
  levelAnswers := []
  frameDraws := 0
  levelDraws := 0

/-- The block has no fault: the spec uses no fault and no stuck state (93_implementation_defined.md,
60_exceptions.md R183, R188), so no constructor exists and nothing raises one. -/
inductive Fault where
  deriving DecidableEq, Repr

/-- The cases the spec tells a model to refuse. -/
inductive Refusal where
  /-- Raised by a dispatch arm whose instruction has no meaning yet; no arm does now. Safe. -/
  | notModelled (mnemonic : String)
  /-- Raised by every step and every command when the configuration violates 00_scope.md R8. Safe:
  such a configuration has no meaning. -/
  | illegalConfiguration
  /-- Raised by a host access that is not 32 bits wide (20_memory.md R55). Safe: it is outside the
  block's contract. -/
  | hostAccessWidth
  /-- Raised by a host access whose offset is no multiple of 4 (20_memory.md R55). Safe. -/
  | hostAccessMisaligned
  /-- Raised by a host access beyond offset `0x3C` or below `FRAMER_BASE` (20_memory.md
  R55, R59, 10_state.md R29). Safe. -/
  | hostAccessOutside
  deriving DecidableEq, Repr

/-- The answer of a step or of a meaning. -/
abbrev Result := Host.Outcome State Fault Refusal

end Sys2Proof.Machine
end

