-- ==== Sys2Proof/Machine/Ops.lean ====
section
/-! DEFINITION. The shared operations: the parameter buffer, the events and the oracle's answers
(00_scope.md R10 to R12), rejecting a command and clearing the error (40_framing.md R91,
60_exceptions.md R184), accepting one (R92), completing one (R95), and the block's reset (R200). -/

namespace Sys2Proof.Machine

/-! ## The parameter buffer (10_state.md R28) -/

/-- Read `PARAMk`. -/
def ParamRegs.get (p : ParamRegs) : Fin 8 → Word
  | 0 => p.p0
  | 1 => p.p1
  | 2 => p.p2
  | 3 => p.p3
  | 4 => p.p4
  | 5 => p.p5
  | 6 => p.p6
  | 7 => p.p7

/-- Write `PARAMk`. -/
def ParamRegs.set (p : ParamRegs) (v : Word) : Fin 8 → ParamRegs
  | 0 => { p with p0 := v }
  | 1 => { p with p1 := v }
  | 2 => { p with p2 := v }
  | 3 => { p with p3 := v }
  | 4 => { p with p4 := v }
  | 5 => { p with p5 := v }
  | 6 => { p with p6 := v }
  | 7 => { p with p7 := v }

/-- The four bytes of a parameter register, low byte first (10_state.md R28). -/
def wordBytes (w : Word) : List Byte :=
  [w.extractLsb' 0 8, w.extractLsb' 8 8, w.extractLsb' 16 8, w.extractLsb' 24 8]

/-- `P[0..31]`: byte `P[i]` is byte `i mod 4` of `PARAM(i div 4)` (10_state.md R28). -/
def ParamRegs.bytes (p : ParamRegs) : List Byte :=
  wordBytes p.p0 ++ wordBytes p.p1 ++ wordBytes p.p2 ++ wordBytes p.p3 ++
    wordBytes p.p4 ++ wordBytes p.p5 ++ wordBytes p.p6 ++ wordBytes p.p7

/-! ## Views of the state -/

/-- `STATUS.BUSY`: 1 exactly when `ACT_OP` is not `NONE` (10_state.md R31). -/
def busy (s : State) : Bool :=
  match s.actOp with
  | .none => false
  | _ => true

/-- `STATUS.TOUCH_ALT`: 1 when `TOUCH_MODE` is `ALT` (10_state.md R36). -/
def touchAlt (s : State) : Bool :=
  match s.touchMode with
  | .pref => false
  | .alt => true

/-- The level of the select line for a `DC_OUT` value (10_state.md R37). -/
def dcLevel (cfg : Config.Params) : DcState → Level
  | .cmd => cfg.dcCmdLevel
  | .data => cfg.dcDataLevel

/-! ## Bursts, answers and events -/

/-- A frame that is one list of bytes. -/
def Burst.once (l : List Byte) : Burst := { unit := l, count := 1 }

/-- The bytes of a frame, in order: `replicate(count, unit)` (00_scope.md R13). -/
def Burst.bytes (b : Burst) : List Byte := (List.replicate b.count b.unit).flatten

/-- Byte `i` of an answer: the one the state held, else a free value (00_scope.md R12). -/
def RxAnswer.byte (a : RxAnswer) (i : Nat) : Byte := a.given.getD i (Config.freeRxByte a.frame i)

/-- The event without the oracle's answer. -/
def Event.sent : Event → Sent
  | .spiCfg c => .spiCfg c
  | .dc l => .dc l
  | .xfer tx _ => .xfer tx.bytes
  | .irqSample _ => .irqSample
  | .delay us => .delay us

/-- The `rx` bytes of a frame: as many as `tx` has (00_scope.md R10). -/
def Event.rx : Event → List Byte
  | .xfer tx rx => (List.range tx.bytes.length).map rx.byte
  | _ => []

/-- What the block has emitted so far, without the answers. -/
def sentTrace (s : State) : List Sent := s.trace.map Event.sent

/-- `emit E`: append the event to the trace (00_scope.md R14). -/
def emit (e : Event) (s : State) : State := { s with trace := s.trace ++ [e] }

/-- The oracle's answer to the next frame (00_scope.md R12). -/
def nextRx (s : State) : RxAnswer := { given := s.frameAnswers.headD [], frame := s.frameDraws }

/-- The oracle's level at the next sample (00_scope.md R12). -/
def nextLevel (s : State) : Level := s.levelAnswers.headD (Config.freeLevel s.levelDraws)

/-- `emit Xfer(tx)`, the answer taken from the oracle (00_scope.md R10, 20_memory.md R54). -/
def emitXfer (tx : Burst) (s : State) : State :=
  { emit (.xfer tx (nextRx s)) s with
    frameAnswers := s.frameAnswers.tail
    frameDraws := s.frameDraws + 1 }

/-- `emit IrqSample()`, the level taken from the oracle (00_scope.md R10). -/
def emitSample (s : State) : State :=
  { emit (.irqSample (nextLevel s)) s with
    levelAnswers := s.levelAnswers.tail
    levelDraws := s.levelDraws + 1 }

/-! ## Rejection, acceptance, completion, reset -/

/-- `raise CmdError(code)`, the block's one error response: `ERR` and `ERRCODE`, and nothing else
(40_framing.md R91, 60_exceptions.md R183). -/
def reject (code : ErrCode) (s : State) : State := { s with err := true, errCode := code }

/-- A host write of `v` to `STATUS`: bit 1 clears `DONE`; bit 2, the return from an error, clears
`ERR` and `ERRCODE` (10_state.md R23, 60_exceptions.md R184). -/
def clearStatus (v : Word) (s : State) : State :=
  { s with
    done := s.done && !v.getLsbD 1
    err := s.err && !v.getLsbD 2
    errCode := if v.getLsbD 2 then .none else s.errCode }

/-- The part of `accept(w)` every command shares: `CMD`, the latches, `DONE` (40_framing.md R92). -/
def acceptWord (w : Word) (s : State) : State :=
  { s with
    cmd := w
    lCmd := w
    lArg0 := s.arg0
    lArg1 := s.arg1
    lP := s.params
    done := false }

/-- The part of `accept(w)` every command but `NOP` shares: `ACT_OP` and `seq`, and with `ACT_OP`
`BUSY` (40_framing.md R92). -/
def startCommand (op : ActOp) (s : State) : State := { s with actOp := op, seq := some 0 }

/-- `complete` (40_framing.md R95). -/
def complete (s : State) : State := { s with actOp := .none, seq := none, done := true }

/-- A command word at the step of its write, in the check order of 40_framing.md R90: `E_BUSY`, then
the word's own error if it has one (`E_ILLEGAL` or the operand check), else acceptance. -/
def submit (error : Option ErrCode) (accepted : State) (s : State) : Result :=
  if s.cfg.Legal then
    if busy s then .next (reject .busy s)
    else
      match error with
      | some code => .next (reject code s)
      | none => .next accepted
  else .refused .illegalConfiguration

/-- The block's reset input (70_reset_and_hazards.md R200, R201): every piece of the block's state
at its reset value, no event; the configuration stands, and so do the trace and the outside world
(log 9). -/
def assertReset (s : State) : State :=
  { State.reset with
    cfg := s.cfg
    trace := s.trace
    readLog := s.readLog
    hostQueue := s.hostQueue
    turns := s.turns
    frameAnswers := s.frameAnswers
    levelAnswers := s.levelAnswers
    frameDraws := s.frameDraws
    levelDraws := s.levelDraws }

end Sys2Proof.Machine
end

