-- ==== Sys2Proof/Machine/Operands.lean ====
section
/-! DEFINITION. Operands of the running command, read from the latches (30_encoding.md R76, 10_state.md
R30), the operand checks of acceptance (40_framing.md R90), and the bytes of the wire frames
(30_encoding.md R81 to R85). -/

namespace Sys2Proof.Machine

/-! ## Operands from the latches (30_encoding.md R76) -/

/-- `XS` or `YS`: the high half of an argument register. -/
def startCoord (w : Word) : Half := w.extractLsb' 16 16

/-- `XE` or `YE`: the low half of an argument register. -/
def endCoord (w : Word) : Half := w.extractLsb' 0 16

/-- The first `n` bytes of a parameter buffer, for the command word `w`; past the buffer's end, which
only a `P_MAX` above its 32 bytes allows, free bytes (10_state.md R28; log 25). -/
def paramList (w : Word) (p : ParamRegs) (n : Nat) : List Byte :=
  p.bytes.take n ++ (List.range (n - 32)).map fun i => Config.freeParamByte w p.bytes (32 + i)

/-- `params = [L_P[0], ..., L_P[NPARAM-1]]`, empty when `NPARAM = 0`. -/
def latchedParams (s : State) : List Byte := paramList s.lCmd s.lP (lowField s.lCmd).toNat

/-! ## Operand checks (40_framing.md R90) -/

/-- `E_PARAM` if `NPARAM > P_MAX`. -/
def paramError (cfg : Config.Params) (nparam : Byte) : Option ErrCode :=
  if nparam.toNat > cfg.pMax then some .param else none

/-- `E_ADDR` if `TADDR[7] = 1`. -/
def addrError (taddr : Byte) : Option ErrCode := if taddr.getLsbD 7 then some .addr else none

/-- `E_WINDOW` if `XS > XE` or `YS > YE`, over `ARG0` and `ARG1`. -/
def windowError (s : State) : Option ErrCode :=
  if startCoord s.arg0 > endCoord s.arg0 ∨ startCoord s.arg1 > endCoord s.arg1 then some .window
  else none

/-! ## Bytes of the frames -/

/-- `be16(v)`: high byte first (20_memory.md R51). -/
def be16 (v : Half) : List Byte := [v.extractLsb' 8 8, v.extractLsb' 0 8]

/-- `be16(start) ++ be16(end)` of an argument register, the parameters of an address set command
(30_encoding.md R84). -/
def windowBytes (w : Word) : List Byte := be16 (startCoord w) ++ be16 (endCoord w)

/-- `zext_17(end) - zext_17(start) + 1`, 17 bits: `W` or `H` (42_fill.md R143). -/
def extent (w : Word) : BitVec 17 :=
  (endCoord w).setWidth 17 - (startCoord w).setWidth 17 + 1#17

/-- `W*H`, 33 bits: the words of the pixel stream (42_fill.md R143). -/
def pixelCount (s : State) : BitVec 33 := (extent s.lArg0).setWidth 33 * (extent s.lArg1).setWidth 33

/-- `replicate(W*H, be16(COLOR))`, one frame (30_encoding.md R85, 42_fill.md R144). -/
def pixelStream (s : State) : Burst :=
  { unit := be16 (colorField s.lCmd), count := (pixelCount s).toNat }

/-- The touch read frame `[TADDR | READ_FLAG, TOUCH_DUMMY]` (30_encoding.md R82). -/
def touchReadFrame (cfg : Config.Params) (a : Byte) : Burst :=
  Burst.once [a ||| cfg.readFlag, cfg.touchDummy]

/-- The touch write frame `[TADDR, TVAL]` (30_encoding.md R83). -/
def touchWriteFrame (a v : Byte) : Burst := Burst.once [a, v]

/-- `{hi, lo}`: the chip identity (20_memory.md R52). -/
def identity (hi lo : Byte) : Half := hi ++ lo

/-- The SPI mode that `TOUCH_MODE` names (10_state.md R36). -/
def touchSpiMode (cfg : Config.Params) : TouchMode → BitVec 2
  | .pref => cfg.modePref
  | .alt => cfg.modeAlt

/-- The configuration `CFG_DISPLAY` emits (40_framing.md R99). -/
def displayConfig (cfg : Config.Params) : SpiConfig :=
  { mode := cfg.dispMode, div := cfg.dispDiv, cs := cfg.dispCs }

/-- The configuration `CFG_TOUCH(m)` emits (40_framing.md R99). -/
def touchConfig (cfg : Config.Params) (m : TouchMode) : SpiConfig :=
  { mode := touchSpiMode cfg m, div := cfg.touchDiv, cs := cfg.touchCs }

end Sys2Proof.Machine
end

