-- ==== Sys2Proof/Machine/Micro.lean ====
section
/-! DEFINITION. The statements of the commands' pseudocode as data, what each does, and the sequencer
step over a list of them (40_framing.md R94). A statement that emits is one `emit` line with the
statements R94 puts in its step: the record of the event and the storing of an answer. -/

namespace Sys2Proof.Machine

/-- Where a touch read stores the byte beside `RDATA`. -/
inductive Bind where
  /-- nowhere: `v <- TOUCH_READ(a)` of `TRD` -/
  | discard
  /-- `hi <- TOUCH_READ(TOUCH_ID_BASE)` (43_handshake.md R156) -/
  | hi
  /-- `lo <- TOUCH_READ(TOUCH_ID_BASE + 1); id <- {hi, lo}; x[CHIPID] <- zext_32(id)` (R156) -/
  | lo
  deriving DecidableEq, Repr

/-- One `emit` with the statements of its step (40_framing.md R94). -/
inductive EmitStmt where
  /-- `emit SpiCfg(c); SPI_CFG <- c` (R99) -/
  | spiCfg (c : SpiConfig)
  /-- `emit Dc(level of d); DC_OUT <- d` (R96) -/
  | dc (d : DcState)
  /-- `emit Delay(us)` -/
  | delay (us : Nat)
  /-- `emit Xfer(tx)`, `rx` discarded -/
  | xfer (tx : Burst)
  /-- `emit Xfer(tx); HS_BLINK <- HS_BLINK + 1` (43_handshake.md R155) -/
  | blinkXfer (tx : Burst)
  /-- `rx <- emit Xfer(tx); v <- rx[1]; x[RDATA] <- zext_32(v)` and the binding (R97) -/
  | touchRead (tx : Burst) (dst : Bind)
  /-- `lvl <- emit IrqSample()` (43_handshake.md R155) -/
  | sample
  deriving DecidableEq, Repr

/-- A state assignment, which takes effect in the step of the next event (40_framing.md R94). -/
inductive Assign where
  | buState (b : BuState)
  | buIdx (i : Nat)
  | buDone
  | hsState (h : HsState)
  | hsResult (r : HsResult)
  | touchMode (m : TouchMode)
  | hsFallback
  | hsBlinkZero
  deriving DecidableEq, Repr

/-- A test of an answer (43_handshake.md R155). -/
inductive Test where
  /-- `id = CHIP_ID_EXPECTED` -/
  | idMatches
  /-- `lvl = IRQ_IDLE_LEVEL` -/
  | levelIdle
  deriving DecidableEq, Repr

/-- A statement of a command's pseudocode. -/
inductive Stmt where
  | emit (e : EmitStmt)
  | assign (a : Assign)
  /-- skip the next `n` statements if the test holds: an `if` whose body is those statements -/
  | skipIf (t : Test) (n : Nat)
  | complete
  deriving DecidableEq, Repr

/-- What a touch read stores of the byte `v` beside `RDATA`. -/
def bindByte (v : Byte) (s : State) : Bind → State
  | .discard => s
  | .hi => { s with vars := { s.vars with hi := v } }
  | .lo =>
    { s with vars := { s.vars with id := identity s.vars.hi v }, chipId := identity s.vars.hi v }

/-- One event with the assignments of its step. -/
def EmitStmt.run (e : EmitStmt) (s : State) : State :=
  match e with
  | .spiCfg c => { emit (.spiCfg c) s with spiCfg := some c }
  | .dc d => { emit (.dc (dcLevel s.cfg d)) s with dcOut := d }
  | .delay us => emit (.delay us) s
  | .xfer tx => emitXfer tx s
  | .blinkXfer tx => { emitXfer tx s with hsBlink := s.hsBlink + 1 }
  | .touchRead tx dst =>
    bindByte ((nextRx s).byte 1) { emitXfer tx s with rdata := (nextRx s).byte 1 } dst
  | .sample => { emitSample s with vars := { s.vars with lvl := nextLevel s } }

/-- One assignment. -/
def Assign.run (a : Assign) (s : State) : State :=
  match a with
  | .buState b => { s with buState := b }
  | .buIdx i => { s with buIdx := i }
  | .buDone => { s with buDone := true }
  | .hsState h => { s with hsState := h }
  | .hsResult r => { s with hsResult := r }
  | .touchMode m => { s with touchMode := m }
  | .hsFallback => { s with hsFallback := true }
  | .hsBlinkZero => { s with hsBlink := 0 }

/-- Whether a test holds. -/
def Test.holds (t : Test) (s : State) : Bool :=
  match t with
  | .idMatches => s.vars.id == s.cfg.chipIdExpected
  | .levelIdle => s.vars.lvl == s.cfg.irqIdleLevel

/-- A sequencer step (40_framing.md R94) over the statements that remain, the first of them at
position `pos`: run up to and including the next `emit`, and set `seq` to the statement after it, or
complete. `skip` statements are passed over first. -/
def runStmts (skip : Nat) (stmts : List Stmt) (pos : Nat) (s : State) : State :=
  match stmts with
  | [] => complete s
  | st :: rest =>
    match skip with
    | k + 1 => runStmts k rest (pos + 1) s
    | 0 =>
      match st with
      | .emit e => { e.run s with seq := some (pos + 1) }
      | .assign a => runStmts 0 rest (pos + 1) (a.run s)
      | .skipIf t n => runStmts (if t.holds s then n else 0) rest (pos + 1) s
      | .complete => complete s

/-- `if t fails: body`. -/
def ifFails (t : Test) (body : List Stmt) : List Stmt := .skipIf t body.length :: body

/-- `DISPLAY_FRAME(op, params)` (40_framing.md R96). -/
def displayFrame (cfg : Config.Params) (op : Byte) (params : List Byte) : List Stmt :=
  [.emit (.dc .cmd), .emit (.delay cfg.tDcxUs), .emit (.xfer (Burst.once [op]))] ++
    match params with
    | [] => []
    | _ :: _ => [.emit (.dc .data), .emit (.xfer (Burst.once params))]

/-- `CFG_DISPLAY()` (40_framing.md R99). -/
def cfgDisplay (cfg : Config.Params) : List Stmt := [.emit (.spiCfg (displayConfig cfg))]

/-- `CFG_TOUCH(m)` (40_framing.md R99). -/
def cfgTouch (cfg : Config.Params) (m : TouchMode) : List Stmt := [.emit (.spiCfg (touchConfig cfg m))]

/-- `TOUCH_READ(a)` (40_framing.md R97). -/
def touchRead (cfg : Config.Params) (a : Byte) (dst : Bind) : List Stmt :=
  [.emit (.touchRead (touchReadFrame cfg a) dst)]

/-- `TOUCH_WRITE(a, v)` (40_framing.md R98). -/
def touchWrite (a v : Byte) : List Stmt := [.emit (.xfer (touchWriteFrame a v))]

end Sys2Proof.Machine
end

