-- ==== Sys2Proof/Machine/Bringup.lean ====
section
/-! DEFINITION. The display bring-up sequencer: `BRINGUP` (41_bringup.md R120 to R126). -/

namespace Sys2Proof.Machine

/-- `BRINGUP`: acceptance enters `RESET` (40_framing.md R92, 41_bringup.md R120). -/
def execBringup (s : State) : Result :=
  submit none
    { startCommand .bringup (acceptWord (encode .bringup) s) with
      buState := .reset, buDone := false, buIdx := 0 } s

/-- The configuration batch from entry `i` on: `BU_IDX <- i`, then the entry's frame
(41_bringup.md R120, R122). -/
def initFrames (cfg : Config.Params) (i : Nat) : List Config.InitEntry → List Stmt
  | [] => []
  | e :: rest => .assign (.buIdx i) :: (displayFrame cfg e.op e.params ++ initFrames cfg (i + 1) rest)

/-- The pseudocode of `BRINGUP` (41_bringup.md R120). -/
def bringupProgram (s : State) : List Stmt :=
  cfgDisplay s.cfg ++
  displayFrame s.cfg s.cfg.opSwreset [] ++
  [.assign (.buState .sleepInClear), .emit (.delay s.cfg.tResetUs), .assign (.buState .config)] ++
  initFrames s.cfg 0 s.cfg.initTable ++
  [.assign (.buState .sleepExit)] ++
  displayFrame s.cfg s.cfg.opSlpout [] ++
  [.assign (.buState .settleSlpout), .emit (.delay s.cfg.tSlpoutUs), .assign (.buState .displayOn)] ++
  displayFrame s.cfg s.cfg.opDispon [] ++
  [.assign (.buState .settleDispon), .emit (.delay s.cfg.tDisponUs), .assign (.buState .done),
    .assign .buDone, .complete]

end Sys2Proof.Machine
end

