-- ==== Sys2Proof/Machine/Fill.lean ====
section
/-! DEFINITION. The window fill sequencer: `FILL` (42_fill.md R140 to R146). -/

namespace Sys2Proof.Machine

/-- `FILL COLOR`: the window is checked over `ARG0` and `ARG1` at acceptance (42_fill.md R140, R142). -/
def execFill (color : Half) (s : State) : Result :=
  submit (windowError s) (startCommand .fill (acceptWord (encode (.fill color)) s)) s

/-- The pseudocode of `FILL` (42_fill.md R140). -/
def fillProgram (s : State) : List Stmt :=
  cfgDisplay s.cfg ++
  displayFrame s.cfg s.cfg.opCaset (windowBytes s.lArg0) ++
  displayFrame s.cfg s.cfg.opRaset (windowBytes s.lArg1) ++
  displayFrame s.cfg s.cfg.opRamwr [] ++
  [.emit (.dc .data), .emit (.xfer (pixelStream s)), .complete]

end Sys2Proof.Machine
end

