-- ==== Sys2Proof/Machine/Framing.lean ====
section
/-! DEFINITION. The commands that are one framed transaction each: `NOP`, `DCMD`, `TRD`, `TWR`
(40_framing.md R102 to R105). A meaning is the command's acceptance (R90, R92) at the step of its
write; its pseudocode is what the sequencer runs after it (R94; log 24). -/

namespace Sys2Proof.Machine

/-- `NOP` completes at its acceptance (40_framing.md R92, R102). -/
def execNop (s : State) : Result :=
  submit none { acceptWord (encode .nop) s with done := true } s

/-- `DCMD DOP, NPARAM` (40_framing.md R103). -/
def execDcmd (dop nparam : Byte) (s : State) : Result :=
  submit (paramError s.cfg nparam) (startCommand .dcmd (acceptWord (encode (.dcmd dop nparam)) s)) s

/-- `TRD TADDR` (40_framing.md R104). -/
def execTrd (taddr : Byte) (s : State) : Result :=
  submit (addrError taddr) (startCommand .trd (acceptWord (encode (.trd taddr)) s)) s

/-- `TWR TADDR, TVAL` (40_framing.md R105). -/
def execTwr (taddr tval : Byte) (s : State) : Result :=
  submit (addrError taddr) (startCommand .twr (acceptWord (encode (.twr taddr tval)) s)) s

/-- The pseudocode of `DCMD` (40_framing.md R103). -/
def dcmdProgram (s : State) : List Stmt :=
  cfgDisplay s.cfg ++ displayFrame s.cfg (dopField s.lCmd) (latchedParams s) ++ [.complete]

/-- The pseudocode of `TRD` (40_framing.md R104). -/
def trdProgram (s : State) : List Stmt :=
  cfgTouch s.cfg s.touchMode ++ touchRead s.cfg (lowField s.lCmd) .discard ++ [.complete]

/-- The pseudocode of `TWR` (40_framing.md R105). -/
def twrProgram (s : State) : List Stmt :=
  cfgTouch s.cfg s.touchMode ++ touchWrite (midField s.lCmd) (lowField s.lCmd) ++ [.complete]

end Sys2Proof.Machine
end

