-- ==== Sys2Proof/Machine/Handshake.lean ====
section
/-! DEFINITION. The touch chip-ID handshake sequencer: `HANDSHAKE` (43_handshake.md R155 to R166). -/

namespace Sys2Proof.Machine

/-- `HANDSHAKE`: acceptance clears the outcome and enters `CFG_PREF` (40_framing.md R92,
43_handshake.md R155). -/
def execHandshake (s : State) : Result :=
  submit none
    { startCommand .handshake (acceptWord (encode .handshake) s) with
      hsResult := .none, hsFallback := false, hsState := .cfgPref } s

/-- `READ_ID()` (43_handshake.md R156). -/
def readId (cfg : Config.Params) : List Stmt :=
  touchRead cfg cfg.touchIdBase .hi ++ touchRead cfg (cfg.touchIdBase + 1#8) .lo

/-- The end of a failed handshake (43_handshake.md R158, R159). -/
def failWith (r : HsResult) : List Stmt :=
  [.assign (.hsResult r), .assign (.hsState .fail), .complete]

/-- The fallback to the alternate mode and the one retry (43_handshake.md R155, R157). -/
def fallback (cfg : Config.Params) : List Stmt :=
  [.assign (.hsState .cfgAlt), .assign (.touchMode .alt), .assign .hsFallback] ++
  cfgTouch cfg .alt ++
  [.assign (.hsState .readId2)] ++
  readId cfg ++
  ifFails .idMatches (failWith .failId)

/-- One low/high pair of the blink (43_handshake.md R162). -/
def blinkPair (cfg : Config.Params) : List Stmt :=
  [.emit (.blinkXfer (touchWriteFrame cfg.tregGpioClr cfg.touchGpioMask)),
    .emit (.delay cfg.tBlinkUs),
    .emit (.blinkXfer (touchWriteFrame cfg.tregGpioSet cfg.touchGpioMask)),
    .emit (.delay cfg.tBlinkUs)]

/-- Step 5: software reset, then clock enable (43_handshake.md R160). -/
def resetAndClock (cfg : Config.Params) : List Stmt :=
  [.assign (.hsState .softReset)] ++ touchWrite cfg.tregSysCtrl1 cfg.tvalSoftreset ++
  [.assign (.hsState .clkEn)] ++ touchWrite cfg.tregSysCtrl2 cfg.tvalClken

/-- Step 6: the GPIO bit's configuration and the blink (43_handshake.md R161, R162). -/
def gpioAndBlink (cfg : Config.Params) : List Stmt :=
  [.assign (.hsState .gpioCfg)] ++ touchWrite cfg.tregGpioAf cfg.tvalGpioAf ++
  touchWrite cfg.tregGpioDir cfg.tvalGpioDir ++
  [.assign (.hsState .blink), .assign .hsBlinkZero] ++
  (List.replicate cfg.blinkPairs (blinkPair cfg)).flatten

/-- The pseudocode of `HANDSHAKE` (43_handshake.md R155). -/
def handshakeProgram (s : State) : List Stmt :=
  [.assign (.touchMode .pref)] ++ cfgTouch s.cfg .pref ++
  [.assign (.hsState .readId1)] ++ readId s.cfg ++
  ifFails .idMatches (fallback s.cfg) ++
  [.assign (.hsState .checkIrq), .emit .sample] ++
  ifFails .levelIdle (failWith .failIrq) ++
  resetAndClock s.cfg ++
  gpioAndBlink s.cfg ++
  [.assign (.hsResult .pass), .assign (.hsState .pass), .complete]

end Sys2Proof.Machine
end

