-- ==== Sys2Proof/Machine/Dispatch.lean ====
section
/-! DEFINITION. One arm per command (30_encoding.md R77): its acceptance at the step of the write. -/

namespace Sys2Proof.Machine

def exec (i : Instr) (s : State) : Host.Outcome State Fault Refusal :=
  match i with
  | .nop => Sys2Proof.Machine.execNop s
  | .dcmd dop nparam => Sys2Proof.Machine.execDcmd dop nparam s
  | .trd taddr => Sys2Proof.Machine.execTrd taddr s
  | .twr taddr tval => Sys2Proof.Machine.execTwr taddr tval s
  | .fill color => Sys2Proof.Machine.execFill color s
  | .bringup => Sys2Proof.Machine.execBringup s
  | .handshake => Sys2Proof.Machine.execHandshake s

end Sys2Proof.Machine
end

