-- ==== Sys2Proof/Machine/Flags.lean ====
section
/-! DEFINITION. The codes of the `STATUS` fields (60_exceptions.md R180, 10_state.md R32, R34, R35)
and the `STATUS` word (10_state.md R22). -/

namespace Sys2Proof.Machine

/-- `ERRCODE` (60_exceptions.md R180). -/
def ErrCode.code : ErrCode → BitVec 4
  | .none => 0#4
  | .illegal => 1#4
  | .busy => 2#4
  | .addr => 3#4
  | .param => 4#4
  | .window => 5#4

/-- `BU_STATE` (10_state.md R32). -/
def BuState.code : BuState → BitVec 4
  | .idle => 0#4
  | .reset => 1#4
  | .sleepInClear => 2#4
  | .config => 3#4
  | .sleepExit => 4#4
  | .settleSlpout => 5#4
  | .displayOn => 6#4
  | .settleDispon => 7#4
  | .done => 8#4

/-- `HS_STATE` (10_state.md R34). -/
def HsState.code : HsState → BitVec 4
  | .idle => 0#4
  | .cfgPref => 1#4
  | .readId1 => 2#4
  | .cfgAlt => 3#4
  | .readId2 => 4#4
  | .checkIrq => 5#4
  | .softReset => 6#4
  | .clkEn => 7#4
  | .gpioCfg => 8#4
  | .blink => 9#4
  | .pass => 10#4
  | .fail => 11#4

/-- `HS_RESULT` (10_state.md R35). -/
def HsResult.code : HsResult → BitVec 2
  | .none => 0#2
  | .pass => 1#2
  | .failId => 2#2
  | .failIrq => 3#2

/-- A one-bit field. -/
def bit (b : Bool) : BitVec 1 := BitVec.ofBool b

/-- `STATUS` as the host reads it: every field at its bits, the reserved bits 0 (10_state.md R22). -/
def statusWord (s : State) : Word :=
  place (bit (busy s)) 0 ||| place (bit s.done) 1 ||| place (bit s.err) 2 |||
    place s.errCode.code 4 ||| place s.hsResult.code 8 ||| place (bit s.hsFallback) 10 |||
    place (bit (touchAlt s)) 11 ||| place (bit s.buDone) 12 ||| place s.buState.code 16 |||
    place s.hsState.code 20

end Sys2Proof.Machine
end

