-- ==== Sys2Proof/Machine/Sequencer.lean ====
section
/-! DEFINITION. The sequencer: the running command's pseudocode and one step of it (40_framing.md R94). -/

namespace Sys2Proof.Machine

/-- The pseudocode of the running command, its operands read from the latches (10_state.md R30, R33). -/
def program (s : State) : List Stmt :=
  match s.actOp with
  | .none => []
  | .dcmd => dcmdProgram s
  | .trd => trdProgram s
  | .twr => twrProgram s
  | .fill => fillProgram s
  | .bringup => bringupProgram s
  | .handshake => handshakeProgram s

/-- One sequencer step (40_framing.md R94); none while `ACT_OP = NONE`. A busy state whose `seq` is
`END` is none that a run reaches; it completes (log 12). -/
def sequencerStep (s : State) : State :=
  match s.actOp, s.seq with
  | .none, _ => s
  | _, some n => runStmts 0 ((program s).drop n) n s
  | _, none => complete s

end Sys2Proof.Machine
end

