-- ==== Sys2Proof/Machine/HostPort.lean ====
section
/-! DEFINITION. The host's accesses of the register window (10_state.md R20 to R29, 20_memory.md R55 to
R57), and who moves at a step (00_scope.md R11). -/

namespace Sys2Proof.Machine

/-- The registers of the window (10_state.md R20). -/
inductive HostReg where
  | cmd
  | status
  | arg0
  | arg1
  | rdata
  | chipId
  | reserved
  | param (k : Fin 8)
  deriving DecidableEq, Repr

/-- The map of 10_state.md R20: the register at a byte offset, `none` outside the window or between
two registers. -/
def hostReg : Nat → Option HostReg
  | 0x00 => some .cmd
  | 0x04 => some .status
  | 0x08 => some .arg0
  | 0x0C => some .arg1
  | 0x10 => some .rdata
  | 0x14 => some .chipId
  | 0x18 => some .reserved
  | 0x1C => some .reserved
  | 0x20 => some (.param 0)
  | 0x24 => some (.param 1)
  | 0x28 => some (.param 2)
  | 0x2C => some (.param 3)
  | 0x30 => some (.param 4)
  | 0x34 => some (.param 5)
  | 0x38 => some (.param 6)
  | 0x3C => some (.param 7)
  | _ => none

/-- The register an access reaches, or why the access has no meaning (20_memory.md R55). -/
def hostAccess (off width : Nat) : Except Refusal HostReg :=
  if width ≠ 4 then .error .hostAccessWidth
  else if off % 4 ≠ 0 then .error .hostAccessMisaligned
  else
    match hostReg off with
    | some r => .ok r
    | none => .error .hostAccessOutside

/-- The same of an address of the host's address space: the window begins at `FRAMER_BASE`, and an
address below it is outside (20_memory.md R59). -/
def hostAccessAt (base addr width : Nat) : Except Refusal HostReg :=
  if base ≤ addr then hostAccess (addr - base) width
  else if width ≠ 4 then .error .hostAccessWidth
  else .error .hostAccessOutside

/-- What a host read returns; no read has a side effect (20_memory.md R57). -/
def readReg (r : HostReg) (s : State) : Word :=
  match r with
  | .cmd => s.cmd
  | .status => statusWord s
  | .arg0 => s.arg0
  | .arg1 => s.arg1
  | .rdata => s.rdata.setWidth 32
  | .chipId => s.chipId.setWidth 32
  | .reserved => 0#32
  | .param k => s.params.get k

/-- A host write of `CMD` submits the word as a command (10_state.md R21, 40_framing.md R90). A word
that is no command is rejected with `E_ILLEGAL`, after the check of `BUSY` (R90, 60_exceptions.md
R182). -/
def submitWord (w : Word) (s : State) : Result :=
  match decodeWord w with
  | .ok i => exec i s
  | .error _ => submit (some .illegal) s s

/-- A host write of any register (20_memory.md R57): `RDATA`, `CHIPID` and the reserved offsets
ignore it (10_state.md R26, R27, R29). -/
def writeReg (r : HostReg) (v : Word) (s : State) : Result :=
  match r with
  | .cmd => submitWord v s
  | .status => .next (clearStatus v s)
  | .arg0 => .next { s with arg0 := v }
  | .arg1 => .next { s with arg1 := v }
  | .rdata => .next s
  | .chipId => .next s
  | .reserved => .next s
  | .param k => .next { s with params := s.params.set v k }

/-- Record what a host read returned. -/
def logRead (off : Nat) (v : Word) (s : State) : State :=
  { s with readLog := s.readLog ++ [{ off := off, value := v }] }

/-- A host read of the register an access reaches, or the access's refusal. -/
def readAccess (a : Except Refusal HostReg) (off : Nat) (s : State) : Result :=
  match a with
  | .ok r => .next (logRead off (readReg r s) s)
  | .error e => .refused e

/-- A host write of the register an access reaches, or the access's refusal. -/
def writeAccess (a : Except Refusal HostReg) (v : Word) (s : State) : Result :=
  match a with
  | .ok r => writeReg r v s
  | .error e => .refused e

/-- One host operation. A `poll` reads `STATUS`, and is repeated while the value's `BUSY` is 1
(30_encoding.md R87). -/
def hostOp (op : HostOp) (s : State) : Result :=
  match op with
  | .read off width => readAccess (hostAccess off width) off s
  | .write off width v => writeAccess (hostAccess off width) v s
  | .readAt addr width =>
    readAccess (hostAccessAt s.cfg.framerBase addr width) (addr - s.cfg.framerBase) s
  | .writeAt addr width v => writeAccess (hostAccessAt s.cfg.framerBase addr width) v s
  | .poll =>
    if (statusWord s).getLsbD 0 then
      .next { logRead 0x04 (statusWord s) s with hostQueue := .poll :: s.hostQueue }
    else .next (logRead 0x04 (statusWord s) s)

/-- The host moves: its next operation, nothing if it has none. -/
def hostStep (s : State) : Result :=
  match s.hostQueue with
  | [] => .next s
  | op :: rest => hostOp op { s with hostQueue := rest }

/-- Who moves now: the turn the state holds; where it holds none, the sequencer while a command
runs, else the host (log 6). -/
def nextTurn (s : State) : Turn :=
  match s.turns with
  | t :: _ => t
  | [] => if busy s then .sequencer else .host

/-- The turn is taken. -/
def takeTurn (s : State) : State := { s with turns := s.turns.tail }

/-- One step of the whole machine (00_scope.md R11): a configuration that violates R8 is refused. -/
def machineStep (s : State) : Result :=
  if s.cfg.Legal then
    match nextTurn s with
    | .host => hostStep (takeTurn s)
    | .sequencer => .next (sequencerStep (takeTurn s))
    | .reset => .next (assertReset (takeTurn s))
  else .refused .illegalConfiguration

/-- The host's next access becomes the write of `w` to `CMD`, and the host moves next. -/
def placeCommand (w : Word) (s : State) : State :=
  { s with hostQueue := .write 0x00 4 w :: s.hostQueue, turns := .host :: s.turns }

end Sys2Proof.Machine
end

