-- ==== Sys2Proof/Machine/HostProgram.lean ====
section
/-! DEFINITION. The host pseudo-instructions of 30_encoding.md R87: each line's expansion into host
operations. -/

namespace Sys2Proof.Machine

/-- The lines of 30_encoding.md R87; a command is a line of R86 written alone. -/
inductive Pseudo where
  | wr (off : Nat) (v : Word)
  | rd (off : Nat)
  | issue (w : Word)
  | command (a : Asm)
  | poll
  | clrst
  | setwin (xs ys xe ye : Half)
  | setparams (bytes : List Byte)
  | dcmdp (dop : Nat) (bytes : List Byte)
  | fillwin (xs ys xe ye : Half) (color : Nat)
  deriving DecidableEq, Repr

/-- `b0 | b1<<8 | b2<<16 | b3<<24`, missing bytes 0 (30_encoding.md R87). -/
def packBytes (b : List Byte) : Word :=
  place (b.getD 0 0#8) 0 ||| place (b.getD 1 0#8) 8 ||| place (b.getD 2 0#8) 16 |||
    place (b.getD 3 0#8) 24

/-- The writes of `setparams` from `PARAMk` on: one for each four bytes that remain, at most `n`. -/
def paramWrites : Nat → Nat → List Byte → List HostOp
  | 0, _, _ => []
  | _, _, [] => []
  | n + 1, k, b :: bs =>
    .write (0x20 + 4 * k) 4 (packBytes (b :: bs)) :: paramWrites n (k + 1) ((b :: bs).drop 4)

/-- The expansion of `setparams`; more than `P_MAX` bytes have none (30_encoding.md R87). -/
def expandParams (pMax : Nat) (bytes : List Byte) : Option (List HostOp) :=
  if bytes.length ≤ pMax then some (paramWrites bytes.length 0 bytes) else none

/-- The expansion of `setwin` (30_encoding.md R87). -/
def expandWindow (xs ys xe ye : Half) : List HostOp :=
  [.write 0x08 4 (place xs 16 ||| place xe 0), .write 0x0C 4 (place ys 16 ||| place ye 0)]

/-- The expansion of a line of 30_encoding.md R86 written alone: `issue` of its encoding. -/
def expandCommand (a : Asm) : Option (List HostOp) := a.assemble.map fun w => [.write 0x00 4 w]

/-- The expansions of 30_encoding.md R87 for a block with the given `P_MAX`; `none` is an assembly
error. -/
def Pseudo.expand (pMax : Nat) : Pseudo → Option (List HostOp)
  | .wr off v => some [.write off 4 v]
  | .rd off => some [.read off 4]
  | .issue w => some [.write 0x00 4 w]
  | .command a => expandCommand a
  | .poll => some [.poll]
  | .clrst => some [.write 0x04 4 0x00000006#32]
  | .setwin xs ys xe ye => some (expandWindow xs ys xe ye)
  | .setparams bytes => expandParams pMax bytes
  | .dcmdp dop bytes =>
    match expandParams pMax bytes, expandCommand (.dcmd dop bytes.length) with
    | some p, some c => some (p ++ c)
    | _, _ => none
  | .fillwin xs ys xe ye color => (expandCommand (.fill color)).map (expandWindow xs ys xe ye ++ ·)

/-- The host operations of a program, in order; `none` if a line has an assembly error. -/
def expandProgram (pMax : Nat) : List Pseudo → Option (List HostOp)
  | [] => some []
  | l :: rest =>
    match l.expand pMax, expandProgram pMax rest with
    | some a, some b => some (a ++ b)
    | _, _ => none

end Sys2Proof.Machine
end

