-- ==== Sys2Proof/Safety.lean ====
section
/-! DEFINITION. The terms the claims use: runs of the sequencer, the event lists of the commands
written out from their rules, the answers that lie ahead, and the invariants of the machine. -/

namespace Sys2Proof.Safety

open Sys2Proof.Machine

/-! ## Runs -/

/-- `k` sequencer steps with no other step between them. -/
def runSequencer : Nat → State → State
  | 0, s => s
  | k + 1, s => runSequencer k (sequencerStep s)

/-- Byte 1 of the oracle's answer to the `k`-th frame from now on (00_scope.md R12). -/
def comingByte (s : State) (k : Nat) : Byte :=
  (s.frameAnswers.getD k []).getD 1 (Config.freeRxByte (s.frameDraws + k) 1)

/-- The identity read by the `k`-th and the next frame from now on (43_handshake.md R156). -/
def comingId (s : State) (k : Nat) : Half := comingByte s k ++ comingByte s (k + 1)

/-! ## The events of each command, as its rule lists them -/

/-- The events of a RegisterCommand `(op, params)` (30_encoding.md R81). -/
def frameEvents (cfg : Config.Params) (op : Byte) (params : List Byte) : List Sent :=
  [.dc cfg.dcCmdLevel, .delay cfg.tDcxUs, .xfer [op]] ++
    if params = [] then [] else [.dc cfg.dcDataLevel, .xfer params]

/-- `[P[0], ..., P[n-1]]` for the `DCMD` word `w` (30_encoding.md R76); past the buffer's 32 bytes, free
bytes (assumption log 25). -/
def parameterBytes (w : Word) (p : ParamRegs) (n : Nat) : List Byte :=
  (List.range n).map fun i => p.bytes.getD i (Config.freeParamByte w p.bytes i)

/-- `SpiCfg(DISP_MODE, DISP_DIV, DISP_CS)` (40_framing.md R99). -/
def displayCfgEvent (cfg : Config.Params) : Sent :=
  .spiCfg { mode := cfg.dispMode, div := cfg.dispDiv, cs := cfg.dispCs }

/-- `SpiCfg(mode, TOUCH_DIV, TOUCH_CS)` for the mode a `TOUCH_MODE` names (40_framing.md R99). -/
def touchCfgEvent (cfg : Config.Params) (m : TouchMode) : Sent :=
  .spiCfg
    { mode := if m = .alt then cfg.modeAlt else cfg.modePref, div := cfg.touchDiv, cs := cfg.touchCs }

/-- The frame that reads touch register `a` (30_encoding.md R82). -/
def readEvent (cfg : Config.Params) (a : Byte) : Sent := .xfer [a ||| cfg.readFlag, cfg.touchDummy]

/-- The frame that writes touch register `a` (30_encoding.md R83). -/
def writeEvent (a v : Byte) : Sent := .xfer [a, v]

/-- The two bytes of a 16-bit value, high byte first (20_memory.md R51). -/
def bigEndian (v : Half) : List Byte := [v.extractLsb' 8 8, v.extractLsb' 0 8]

/-- The parameters of an address set command: the high and the low half of an argument register,
each high byte first (30_encoding.md R84). -/
def addressBytes (arg : Word) : List Byte :=
  bigEndian (arg.extractLsb' 16 16) ++ bigEndian (arg.extractLsb' 0 16)

/-- `XE - XS + 1` as a number (42_fill.md R143). -/
def span (arg : Word) : Nat := (arg.extractLsb' 0 16).toNat - (arg.extractLsb' 16 16).toNat + 1

/-- The sixteen events of a `FILL` (42_fill.md R140). -/
def fillEvents (cfg : Config.Params) (arg0 arg1 : Word) (color : Half) : List Sent :=
  [displayCfgEvent cfg] ++ frameEvents cfg cfg.opCaset (addressBytes arg0) ++
    frameEvents cfg cfg.opRaset (addressBytes arg1) ++ frameEvents cfg cfg.opRamwr [] ++
    [.dc cfg.dcDataLevel, .xfer (List.replicate (span arg0 * span arg1) (bigEndian color)).flatten]

/-- The events of the configuration batch, in table order (41_bringup.md R122). -/
def batchEvents (cfg : Config.Params) (table : List Config.InitEntry) : List Sent :=
  table.flatMap fun e => frameEvents cfg e.op e.params

/-- The events of a `BRINGUP` (41_bringup.md R120). -/
def bringupEvents (cfg : Config.Params) : List Sent :=
  [displayCfgEvent cfg] ++ frameEvents cfg cfg.opSwreset [] ++ [.delay cfg.tResetUs] ++
    batchEvents cfg cfg.initTable ++ frameEvents cfg cfg.opSlpout [] ++ [.delay cfg.tSlpoutUs] ++
    frameEvents cfg cfg.opDispon [] ++ [.delay cfg.tDisponUs]

/-- The two frames of an identity read (43_handshake.md R156). -/
def idEvents (cfg : Config.Params) : List Sent :=
  [readEvent cfg cfg.touchIdBase, readEvent cfg (cfg.touchIdBase + 1#8)]

/-- One low/high pair of the blink (43_handshake.md R162). -/
def blinkEvents (cfg : Config.Params) : List Sent :=
  [writeEvent cfg.tregGpioClr cfg.touchGpioMask, .delay cfg.tBlinkUs,
    writeEvent cfg.tregGpioSet cfg.touchGpioMask, .delay cfg.tBlinkUs]

/-! ## Acceptance, written out from 40_framing.md R90 to R92 -/

/-- The error of a word written to `CMD` while the block is idle, in the check order of 40_framing.md
R90, read off the word's bits; `none` if every check passes. -/
def acceptanceError (w : Word) (s : State) : Option ErrCode :=
  if w.extractLsb' 24 8 = 0x00#8 ∨ w.extractLsb' 24 8 = 0x05#8 ∨ w.extractLsb' 24 8 = 0x06#8 then
    if w.extractLsb' 0 24 ≠ 0#24 then some .illegal else none
  else if w.extractLsb' 24 8 = 0x01#8 then
    if w.extractLsb' 8 8 ≠ 0#8 then some .illegal
    else if (w.extractLsb' 0 8).toNat > s.cfg.pMax then some .param
    else none
  else if w.extractLsb' 24 8 = 0x02#8 then
    if w.extractLsb' 8 16 ≠ 0#16 then some .illegal
    else if w.getLsbD 7 then some .addr
    else none
  else if w.extractLsb' 24 8 = 0x03#8 then
    if w.extractLsb' 16 8 ≠ 0#8 then some .illegal
    else if w.getLsbD 15 then some .addr
    else none
  else if w.extractLsb' 24 8 = 0x04#8 then
    if w.extractLsb' 16 8 ≠ 0#8 then some .illegal
    else if s.arg0.extractLsb' 16 16 > s.arg0.extractLsb' 0 16 ∨
        s.arg1.extractLsb' 16 16 > s.arg1.extractLsb' 0 16 then some .window
    else none
  else some .illegal

/-- The operands pass the checks of 40_framing.md R90. -/
def operandsOk (i : Instr) (s : State) : Bool :=
  match i with
  | .nop => true
  | .dcmd _ nparam => decide (nparam.toNat ≤ s.cfg.pMax)
  | .trd taddr => !taddr.getLsbD 7
  | .twr taddr _ => !taddr.getLsbD 7
  | .fill _ =>
    decide (s.arg0.extractLsb' 16 16 ≤ s.arg0.extractLsb' 0 16) &&
      decide (s.arg1.extractLsb' 16 16 ≤ s.arg1.extractLsb' 0 16)
  | .bringup => true
  | .handshake => true

/-- The word of a command, by the encoding column of 30_encoding.md R86. -/
def commandWord : Instr → Word
  | .nop => 0x00000000#32
  | .dcmd dop nparam => 0x01000000#32 ||| dop.setWidth 32 <<< 16 ||| nparam.setWidth 32
  | .trd taddr => 0x02000000#32 ||| taddr.setWidth 32
  | .twr taddr tval => 0x03000000#32 ||| taddr.setWidth 32 <<< 8 ||| tval.setWidth 32
  | .fill color => 0x04000000#32 ||| color.setWidth 32
  | .bringup => 0x05000000#32
  | .handshake => 0x06000000#32

/-- The first two lines of `accept(w)` (40_framing.md R92). -/
def latched (w : Word) (s : State) : State :=
  { s with cmd := w, lCmd := w, lArg0 := s.arg0, lArg1 := s.arg1, lP := s.params, done := false }

/-- `accept(w)`, written out per command (40_framing.md R92). -/
def accepted (i : Instr) (s : State) : State :=
  match i with
  | .nop => { latched (commandWord i) s with done := true }
  | .dcmd _ _ => { latched (commandWord i) s with actOp := .dcmd, seq := some 0 }
  | .trd _ => { latched (commandWord i) s with actOp := .trd, seq := some 0 }
  | .twr _ _ => { latched (commandWord i) s with actOp := .twr, seq := some 0 }
  | .fill _ => { latched (commandWord i) s with actOp := .fill, seq := some 0 }
  | .bringup =>
    { latched (commandWord i) s with
      actOp := .bringup, seq := some 0, buState := .reset, buDone := false, buIdx := 0 }
  | .handshake =>
    { latched (commandWord i) s with
      actOp := .handshake, seq := some 0, hsResult := .none, hsFallback := false,
      hsState := .cfgPref }

/-! ## Logs of a run -/

/-- What one sequencer step emits, and `BU_STATE` and `HS_STATE` after it. -/
def stepLog (s : State) : List Sent × BuState × HsState :=
  (((sequencerStep s).trace.drop s.trace.length).map Event.sent, (sequencerStep s).buState,
    (sequencerStep s).hsState)

/-- The log of `k` sequencer steps. -/
def runLog : Nat → State → List (List Sent × BuState × HsState)
  | 0, _ => []
  | k + 1, s => stepLog s :: runLog k (sequencerStep s)

/-- Host operations one after the other, with no other step between them. -/
def runHostOps : List HostOp → State → Result
  | [], s => .next s
  | op :: rest, s =>
    match hostOp op s with
    | .next t => runHostOps rest t
    | .fault r => .fault r
    | .refused r => .refused r

/-- Events that are emitted while a sequencer state holds, one step each. -/
def during {α : Type} (b : α) (events : List Sent) : List (List Sent × α) :=
  events.map fun e => ([e], b)

/-- The events of a `BRINGUP` with the `BU_STATE` each is emitted in, and the completion step
(41_bringup.md R121). -/
def bringupLog (cfg : Config.Params) : List (List Sent × BuState) :=
  during .reset (displayCfgEvent cfg :: frameEvents cfg cfg.opSwreset []) ++
    during .sleepInClear [.delay cfg.tResetUs] ++
    during .config (batchEvents cfg cfg.initTable) ++
    during .sleepExit (frameEvents cfg cfg.opSlpout []) ++
    during .settleSlpout [.delay cfg.tSlpoutUs] ++
    during .displayOn (frameEvents cfg cfg.opDispon []) ++
    during .settleDispon [.delay cfg.tDisponUs] ++ [([], .done)]

/-- The events of a `HANDSHAKE` with the `HS_STATE` each is emitted in, and the completion step, for
whether the first identity matches, whether the second does, and whether the line is idle
(43_handshake.md R155, R163). -/
def handshakeLog (cfg : Config.Params) (first second idle : Bool) : List (List Sent × HsState) :=
  during .cfgPref [touchCfgEvent cfg .pref] ++ during .readId1 (idEvents cfg) ++
    (if first then [] else
      during .cfgAlt [touchCfgEvent cfg .alt] ++ during .readId2 (idEvents cfg)) ++
    if first || second then
      during .checkIrq [.irqSample] ++
        if idle then
          during .softReset [writeEvent cfg.tregSysCtrl1 cfg.tvalSoftreset] ++
            during .clkEn [writeEvent cfg.tregSysCtrl2 cfg.tvalClken] ++
            during .gpioCfg
              [writeEvent cfg.tregGpioAf cfg.tvalGpioAf, writeEvent cfg.tregGpioDir cfg.tvalGpioDir] ++
            during .blink (List.replicate cfg.blinkPairs (blinkEvents cfg)).flatten ++ [([], .pass)]
        else [([], .fail)]
    else [([], .fail)]

/-! ## Invariants -/

/-- The command an instruction starts; `NOP` starts none (40_framing.md R92). -/
def startedOp : Instr → ActOp
  | .nop => .none
  | .dcmd _ _ => .dcmd
  | .trd _ => .trd
  | .twr _ _ => .twr
  | .fill _ => .fill
  | .bringup => .bringup
  | .handshake => .handshake

/-- A sequencer step begins at statement `n`: the first, or one after an `emit` (40_framing.md R94). -/
def stepBegins (p : List Stmt) (n : Nat) : Bool :=
  n == 0 ||
    match p[n - 1]? with
    | some (.emit _) => true
    | _ => false

/-- `seq` is `END` exactly when `ACT_OP` is `NONE`, and else names a statement of the running
pseudocode at which a step begins (10_state.md R33, 40_framing.md R94). -/
def seqOk (s : State) : Bool :=
  match s.seq with
  | none => !busy s
  | some n => busy s && decide (n < (program s).length) && stepBegins (program s) n

/-- The latch of a running command holds its word, the last accepted one, with legal operands
(10_state.md R21, R30, 30_encoding.md R76). -/
def latchOk (s : State) : Bool :=
  !busy s ||
    match decodeWord s.lCmd with
    | .ok i => startedOp i == s.actOp && i.wellFormed s.cfg && s.lCmd == s.cmd
    | .error _ => false

/-- The latched window of a running `FILL` is not inverted (42_fill.md R142, R143). -/
def windowOk (s : State) : Bool :=
  s.actOp != .fill ||
    (decide (startCoord s.lArg0 ≤ endCoord s.lArg0) && decide (startCoord s.lArg1 ≤ endCoord s.lArg1))

/-- `ERRCODE` is 0 exactly when `ERR` is 0 (10_state.md R22, R23, 40_framing.md R91). -/
def errOk (s : State) : Bool := s.err == (s.errCode != .none)

/-- The invariant of the sequencer and the error record. -/
abbrev Inv (s : State) : Prop :=
  s.cfg.Legal ∧ seqOk s = true ∧ latchOk s = true ∧ windowOk s = true ∧ errOk s = true

/-- `BU_STATE` and `BU_DONE`: within a bring-up a state from `RESET` to `SETTLE_DISPON` and `BU_DONE`
0; outside one `IDLE` with 0 or `DONE` with 1 (10_state.md R22, R32, 41_bringup.md R121, R125). -/
def bringupOk (s : State) : Bool :=
  if s.actOp = .bringup then !s.buDone && s.buState != .idle && s.buState != .done
  else (s.buState == .idle && !s.buDone) || (s.buState == .done && s.buDone)

/-- The mode in use is the alternate one exactly when the most recent handshake fell back
(10_state.md R22, R36, 43_handshake.md R164). -/
def modeOk (s : State) : Bool := s.hsFallback == touchAlt s

/-- `HS_STATE`, `HS_RESULT`, `HS_FALLBACK` and `TOUCH_MODE` (10_state.md R34 to R36, 43_handshake.md
R163, R164): within a handshake no outcome yet; outside one the state says the outcome. -/
def handshakeOk (s : State) : Bool :=
  if s.actOp = .handshake then
    s.hsResult == .none && s.hsState != .idle && s.hsState != .pass && s.hsState != .fail &&
      if s.seq = some 0 then !s.hsFallback else modeOk s
  else
    modeOk s &&
      match s.hsState with
      | .idle => s.hsResult == .none
      | .pass => s.hsResult == .pass
      | .fail => s.hsResult == .failId || s.hsResult == .failIrq
      | _ => false

/-- After its first event a command's `SPI_CFG` names the device its frames are for, and for the
touch controller the mode of `TOUCH_MODE` (10_state.md R38, 40_framing.md R99, R100). -/
def busOk (s : State) : Bool :=
  match s.actOp with
  | .none => true
  | .dcmd | .fill | .bringup => s.seq == some 0 || s.spiCfg == some (displayConfig s.cfg)
  | .trd | .twr | .handshake =>
    s.seq == some 0 || s.spiCfg == some (touchConfig s.cfg s.touchMode)

end Sys2Proof.Safety
end

