-- ==== Sys2Proof/Certificates/Slice0/Obligations.lean ====
section
/-! DEFINITION. The statements for the provers. Each docstring names the rule it formalises. -/

open Sys2Proof Sys2Proof.Machine Sys2Proof.Safety

/-! ## Encoding -/

/-- 30_encoding.md R70 to R77: every command's word decodes to it, with every operand value. -/
def Obligations.EncodedCommandDecodes : Prop :=
  ∀ i : Instr, encode i = commandWord i ∧ decodeWord (encode i) = .ok i

/-- 30_encoding.md R78, R79: a word has at most one reading, and no bit of it is dropped. -/
def Obligations.DecodedWordEncodesBack : Prop :=
  ∀ (w : Word) (i : Instr), decodeWord w = .ok i → encode i = w

/-- Words written out from 30_encoding.md R71 to R77 and 95_test_vectors.md. -/
def Obligations.SampleWordsDecode : Prop :=
  decodeWord 0x00000000#32 = .ok .nop ∧
  decodeWord 0x01360001#32 = .ok (.dcmd 0x36#8 0x01#8) ∧
  decodeWord 0x0200007F#32 = .ok (.trd 0x7F#8) ∧
  decodeWord 0x03000302#32 = .ok (.twr 0x03#8 0x02#8) ∧
  decodeWord 0x0400F800#32 = .ok (.fill 0xF800#16) ∧
  decodeWord 0x05000000#32 = .ok .bringup ∧
  decodeWord 0x06000000#32 = .ok .handshake ∧
  decodeWord 0x07000000#32 = .error .reservedOpcode ∧
  decodeWord 0x0401F800#32 = .error .reservedBits

/-- 30_encoding.md R86: an assembler line whose operands fit their fields encodes the command, one
whose operand does not fit is an assembly error. -/
def Obligations.AssemblerLinesEncode : Prop :=
  (∀ dop nparam : Byte, (Asm.dcmd dop.toNat nparam.toNat).assemble = some (encode (.dcmd dop nparam))) ∧
  (∀ taddr : Byte, (Asm.trd taddr.toNat).assemble = some (encode (.trd taddr))) ∧
  (∀ taddr tval : Byte, (Asm.twr taddr.toNat tval.toNat).assemble = some (encode (.twr taddr tval))) ∧
  (∀ color : Half, (Asm.fill color.toNat).assemble = some (encode (.fill color))) ∧
  Asm.nop.assemble = some (encode .nop) ∧
  Asm.bringup.assemble = some (encode .bringup) ∧
  Asm.handshake.assemble = some (encode .handshake) ∧
  (∀ n : Nat, 256 ≤ n →
    (Asm.trd n).assemble = none ∧
    ∀ m : Nat, (Asm.dcmd n m).assemble = none ∧ (Asm.dcmd m n).assemble = none ∧
      (Asm.twr n m).assemble = none ∧ (Asm.twr m n).assemble = none) ∧
  (∀ n : Nat, 65536 ≤ n → (Asm.fill n).assemble = none)

/-! ## Acceptance and rejection -/

/-- 40_framing.md R90, R91: the checks of the host's write of a word to `CMD`, in their order, for words
that decode and words that do not; a rejection writes `ERR` and `ERRCODE` and nothing else; a word that
passes is the accepted one. -/
def Obligations.CommandWordChecks : Prop :=
  ∀ (s : State) (w : Word), s.cfg.Legal →
    if busy s = true then hostOp (.write 0x00 4 w) s = .next { s with err := true, errCode := .busy }
    else
      match acceptanceError w s with
      | some code => hostOp (.write 0x00 4 w) s = .next { s with err := true, errCode := code }
      | none => ∃ i, commandWord i = w ∧ hostOp (.write 0x00 4 w) s = .next (accepted i s)

/-- 40_framing.md R92: what acceptance does, for each of the seven commands, the whole next state; it
emits no event, and for every command but `NOP` the next sequencer step emits the first. -/
def Obligations.AcceptanceEffect : Prop :=
  ∀ (s : State) (i : Instr), s.cfg.Legal → busy s = false → operandsOk i s = true →
    exec i s = .next (accepted i s) ∧ (accepted i s).trace = s.trace ∧
      (i ≠ .nop → ∃ e, (sequencerStep (accepted i s)).trace = s.trace ++ [e])

/-- 40_framing.md R102: `NOP` completes at its acceptance, with no event. -/
def Obligations.NopCompletesAtAcceptance : Prop :=
  ∀ s : State, s.cfg.Legal → busy s = false →
    ∃ t, exec .nop s = .next t ∧ t.cmd = 0#32 ∧ t.done = true ∧ busy t = false ∧
      t.trace = s.trace ∧ t.err = s.err ∧ t.errCode = s.errCode ∧ t.lCmd = 0#32 ∧
      sequencerStep t = t

/-- 60_exceptions.md R182, R203 of 70_reset_and_hazards.md: every command is rejected while busy. -/
def Obligations.BusyRejectsEveryCommand : Prop :=
  ∀ (s : State) (i : Instr), s.cfg.Legal → busy s = true →
    exec i s = .next { s with err := true, errCode := .busy }

/-- 30_encoding.md R80: a host that supplies the read flag is rejected with `E_ADDR`. -/
def Obligations.ReadFlagAddressRejected : Prop :=
  ∀ (s : State) (taddr tval : Byte), s.cfg.Legal → busy s = false → 0x80#8 ≤ taddr →
    exec (.trd taddr) s = .next { s with err := true, errCode := .addr } ∧
    exec (.twr taddr tval) s = .next { s with err := true, errCode := .addr }

/-- 40_framing.md R103, 30_encoding.md R78: more than `P_MAX` parameters are rejected. -/
def Obligations.OversizedParameterCountRejected : Prop :=
  ∀ (s : State) (dop nparam : Byte), s.cfg.Legal → busy s = false → s.cfg.pMax < nparam.toNat →
    exec (.dcmd dop nparam) s = .next { s with err := true, errCode := .param }

/-- 42_fill.md R142: an inverted window is rejected with `E_WINDOW` and emits no event. -/
def Obligations.InvertedWindowRejected : Prop :=
  ∀ (s : State) (color : Half), s.cfg.Legal → busy s = false →
    (s.arg0.extractLsb' 16 16 > s.arg0.extractLsb' 0 16 ∨
      s.arg1.extractLsb' 16 16 > s.arg1.extractLsb' 0 16) →
    exec (.fill color) s = .next { s with err := true, errCode := .window }

/-- 00_scope.md R8: a configuration that violates a constraint has no meaning and is refused. That every
step and every command refuses it, before any other check, is the model's choice (assumption log 16). -/
def Obligations.IllegalConfigurationRefused : Prop :=
  ∀ s : State,
    (s.cfg.touchIdBase > 0x7E#8 ∨ s.cfg.tregSysCtrl1 ≥ 0x80#8 ∨ s.cfg.tregSysCtrl2 ≥ 0x80#8 ∨
      s.cfg.tregGpioAf ≥ 0x80#8 ∨ s.cfg.tregGpioDir ≥ 0x80#8 ∨ s.cfg.tregGpioSet ≥ 0x80#8 ∨
      s.cfg.tregGpioClr ≥ 0x80#8 ∨ s.cfg.dcCmdLevel = s.cfg.dcDataLevel ∨
      s.cfg.dispCs = s.cfg.touchCs ∨ s.cfg.modePref = s.cfg.modeAlt ∨
      s.cfg.tResetUs < 5000 ∨ s.cfg.tSlpoutUs < 100000 ∨ s.cfg.tDisponUs < 20000 ∨
      s.cfg.tBlinkUs < 300000 ∨ (¬ ∃ k : Fin 8, s.cfg.touchGpioMask = 1#8 <<< k.val)) →
    step s = .refused .illegalConfiguration ∧ ∀ i, exec i s = .refused .illegalConfiguration

/-! ## The step of the machine -/

/-- A step runs the decoded command: when the host moves next and its next access writes to `CMD` a
word that decodes to `i`, the step is `exec i` after the turn and the access are taken. -/
def Obligations.StepRunsDecodedCommand : Prop :=
  ∀ (s : State) (w : Word) (rest : List HostOp) (i : Instr), s.cfg.Legal → nextTurn s = .host →
    s.hostQueue = .write 0x00 4 w :: rest → decodeWord w = .ok i →
    step s = exec i { s with turns := s.turns.tail, hostQueue := rest }

/-- 00_scope.md R11, 20_memory.md R56, R61: when the host moves next, the step is its next access, whatever
it is, on the state with the turn and the access taken; with no access left the turn is taken and nothing
else changes (the queue, the turns and the empty move are the model's, assumption logs 6, 7 and 8). -/
def Obligations.StepRunsHostAccess : Prop :=
  ∀ s : State, s.cfg.Legal → nextTurn s = .host →
    (∀ op rest, s.hostQueue = op :: rest →
      step s = hostOp op { s with turns := s.turns.tail, hostQueue := rest }) ∧
    (s.hostQueue = [] → step s = .next { s with turns := s.turns.tail })

/-- A placed word is the next thing the machine runs, on the state it was placed on. -/
def Obligations.PlacedWordRunsNext : Prop :=
  ∀ (s : State) (w : Nat) (i : Instr), s.cfg.Legal → decodeTableWord 32 w = some i →
    step (s.withFetchWord 32 w) = exec i s

/-- 00_scope.md R11: a turn of the sequencer is one sequencer step, after the turn is taken. -/
def Obligations.SequencerTurnSteps : Prop :=
  ∀ s : State, s.cfg.Legal → nextTurn s = .sequencer →
    step s = .next (sequencerStep { s with turns := s.turns.tail })

/-- With no turn listed, a machine run is a run of the sequencer while a command runs (the model's
choice, assumption log 6). -/
def Obligations.UnscheduledRunIsSequencerRun : Prop :=
  ∀ (k : Nat) (s : State), s.cfg.Legal → s.turns = [] →
    (∀ j, j < k → busy (runSequencer j s) = true) →
    Host.Core.run Sys2Proof.core k s = .next (runSequencer k s)

/-- 70_reset_and_hazards.md R200, R201: the reset input puts every piece of state at its reset value,
emits no event, and leaves the configuration as it is. -/
def Obligations.ResetInputLeavesResetValues : Prop :=
  ∀ s : State, s.cfg.Legal → nextTurn s = .reset →
    ∃ t, step s = .next t ∧
      t.cmd = 0#32 ∧ statusWord t = 0#32 ∧ t.arg0 = 0#32 ∧ t.arg1 = 0#32 ∧ t.rdata = 0#8 ∧
      t.chipId = 0#16 ∧ (∀ k, t.params.get k = 0#32) ∧
      t.lCmd = 0#32 ∧ t.lArg0 = 0#32 ∧ t.lArg1 = 0#32 ∧ (∀ k, t.lP.get k = 0#32) ∧
      t.actOp = .none ∧ t.buState = .idle ∧ t.buIdx = 0 ∧ t.seq = none ∧ t.hsState = .idle ∧
      t.hsResult = .none ∧ t.touchMode = .pref ∧ t.dcOut = .cmd ∧ t.spiCfg = none ∧
      t.cfg = s.cfg ∧ t.trace = s.trace

/-- RS-1 of 95_test_vectors.md, 70_reset_and_hazards.md R200: from `State.reset` every register of the
window reads 0, and nothing has been emitted. -/
def Obligations.ResetReadsZeroEverywhere : Prop :=
  State.reset.trace = [] ∧ busy State.reset = false ∧ State.reset.cfg.Legal ∧
    ∀ (off : Nat) (r : HostReg), hostReg off = some r → readReg r State.reset = 0#32

/-! ## The register window -/

/-- 10_state.md R22 with the codes of R32, R34, R35 and 60_exceptions.md R180: the fields of `STATUS`. -/
def Obligations.StatusFields : Prop :=
  ∀ s : State,
    (statusWord s).getLsbD 0 = (s.actOp != .none) ∧
    (statusWord s).getLsbD 1 = s.done ∧
    (statusWord s).getLsbD 2 = s.err ∧
    (statusWord s).getLsbD 3 = false ∧
    ((statusWord s).extractLsb' 4 4).toNat =
      (match s.errCode with
        | .none => 0 | .illegal => 1 | .busy => 2 | .addr => 3 | .param => 4 | .window => 5) ∧
    ((statusWord s).extractLsb' 8 2).toNat =
      (match s.hsResult with
        | .none => 0 | .pass => 1 | .failId => 2 | .failIrq => 3) ∧
    (statusWord s).getLsbD 10 = s.hsFallback ∧
    (statusWord s).getLsbD 11 = (s.touchMode == .alt) ∧
    (statusWord s).getLsbD 12 = s.buDone ∧
    (statusWord s).extractLsb' 13 3 = 0#3 ∧
    ((statusWord s).extractLsb' 16 4).toNat =
      (match s.buState with
        | .idle => 0 | .reset => 1 | .sleepInClear => 2 | .config => 3 | .sleepExit => 4
        | .settleSlpout => 5 | .displayOn => 6 | .settleDispon => 7 | .done => 8) ∧
    ((statusWord s).extractLsb' 20 4).toNat =
      (match s.hsState with
        | .idle => 0 | .cfgPref => 1 | .readId1 => 2 | .cfgAlt => 3 | .readId2 => 4 | .checkIrq => 5
        | .softReset => 6 | .clkEn => 7 | .gpioCfg => 8 | .blink => 9 | .pass => 10 | .fail => 11) ∧
    (statusWord s).extractLsb' 24 8 = 0#8

/-- 10_state.md R23: a write of `STATUS` clears `DONE` by bit 1, `ERR` and `ERRCODE` by bit 2, and
changes nothing else. -/
def Obligations.StatusWriteClears : Prop :=
  ∀ (s : State) (v : Word),
    hostOp (.write 0x04 4 v) s = .next
      { s with
        done := if v.getLsbD 1 then false else s.done
        err := if v.getLsbD 2 then false else s.err
        errCode := if v.getLsbD 2 then .none else s.errCode }

/-- 20_memory.md R57, 10_state.md R26, R27, R29: a write of `RDATA`, `CHIPID` or a reserved offset has
no effect. -/
def Obligations.ReadOnlyOffsetsIgnoreWrites : Prop :=
  ∀ (s : State) (v : Word) (off : Nat), off = 0x10 ∨ off = 0x14 ∨ off = 0x18 ∨ off = 0x1C →
    hostOp (.write off 4 v) s = .next s

/-- 10_state.md R24, R25, R28, 40_framing.md R93: `ARG0`, `ARG1` and `PARAMk` store every bit, at any
time, and change nothing else. -/
def Obligations.OperandRegistersStore : Prop :=
  ∀ (s : State) (v : Word),
    hostOp (.write 0x08 4 v) s = .next { s with arg0 := v } ∧
    hostOp (.write 0x0C 4 v) s = .next { s with arg1 := v } ∧
    ∀ k : Fin 8, ∃ p : ParamRegs,
      hostOp (.write (0x20 + 4 * k.val) 4 v) s = .next { s with params := p } ∧
      p.get k = v ∧ ∀ j, j ≠ k → p.get j = s.params.get j

/-- 10_state.md R20 to R29, 20_memory.md R57: what a host read returns at each offset; it changes
nothing but the model's record of it (log 8). -/
def Obligations.HostReadValues : Prop :=
  ∀ (s : State),
    hostOp (.read 0x00 4) s = .next (logRead 0x00 s.cmd s) ∧
    hostOp (.read 0x04 4) s = .next (logRead 0x04 (statusWord s) s) ∧
    hostOp (.read 0x08 4) s = .next (logRead 0x08 s.arg0 s) ∧
    hostOp (.read 0x0C 4) s = .next (logRead 0x0C s.arg1 s) ∧
    hostOp (.read 0x10 4) s = .next (logRead 0x10 (s.rdata.setWidth 32) s) ∧
    hostOp (.read 0x14 4) s = .next (logRead 0x14 (s.chipId.setWidth 32) s) ∧
    hostOp (.read 0x18 4) s = .next (logRead 0x18 0#32 s) ∧
    hostOp (.read 0x1C 4) s = .next (logRead 0x1C 0#32 s) ∧
    (∀ k : Fin 8, hostOp (.read (0x20 + 4 * k.val) 4) s =
      .next (logRead (0x20 + 4 * k.val) (s.params.get k) s)) ∧
    ∀ (off : Nat) (v : Word),
      logRead off v s = { s with readLog := s.readLog ++ [{ off := off, value := v }] }

/-- 20_memory.md R55: an access that is not 32 bits wide, not aligned, or outside `0x00` to `0x3C` has
no meaning; every other access has one unless the configuration has none. -/
def Obligations.HostAccessContract : Prop :=
  ∀ (s : State) (off width : Nat) (v : Word), s.cfg.Legal →
    if width = 4 ∧ off % 4 = 0 ∧ off ≤ 0x3C then
      (∃ t, hostOp (.read off width) s = .next t) ∧ ∃ t, hostOp (.write off width v) s = .next t
    else
      (∃ r, hostOp (.read off width) s = .refused r) ∧
        ∃ r, hostOp (.write off width v) s = .refused r

/-- 20_memory.md R59: the window stands at `FRAMER_BASE` of the host's address space: an access at an
address from there on is the access at its offset, and one below it is refused (assumption logs 14, 15). -/
def Obligations.WindowStandsAtFramerBase : Prop :=
  ∀ (s : State) (off width : Nat) (v : Word),
    hostOp (.readAt (s.cfg.framerBase + off) width) s = hostOp (.read off width) s ∧
    hostOp (.writeAt (s.cfg.framerBase + off) width v) s = hostOp (.write off width v) s ∧
    ∀ addr, addr < s.cfg.framerBase →
      (∃ r, hostOp (.readAt addr width) s = .refused r) ∧
        ∃ r, hostOp (.writeAt addr width v) s = .refused r

/-- 10_state.md R28: byte `P[i]` is byte `i mod 4` of `PARAM(i div 4)`. -/
def Obligations.ParameterBytePacking : Prop :=
  ∀ p : ParamRegs, p.bytes.length = 32 ∧
    ∀ (k : Fin 8) (j : Fin 4),
      p.bytes[4 * k.val + j.val]? = some ((p.get k).extractLsb' (8 * j.val) 8)

/-- 30_encoding.md R87: `setparams` puts its bytes into `P[0 ..]`, zeros into the rest of the last
register it writes, and leaves every other register as it was; more than `P_MAX` bytes are an assembly
error. Where `P_MAX` exceeds the buffer of 10_state.md R28, bytes past its end are written outside the
window, which 20_memory.md R55 gives no meaning. -/
def Obligations.SetparamsFillsBuffer : Prop :=
  ∀ (s : State) (bytes : List Byte),
    if s.cfg.pMax < bytes.length then (Pseudo.setparams bytes).expand s.cfg.pMax = none
    else if bytes.length ≤ 32 then
      ∃ ops p, (Pseudo.setparams bytes).expand s.cfg.pMax = some ops ∧
        runHostOps ops s = .next { s with params := p } ∧
        p.bytes = bytes ++
          List.replicate (4 * ((bytes.length + 3) / 4) - bytes.length) 0#8 ++
          s.params.bytes.drop (4 * ((bytes.length + 3) / 4))
    else
      ∃ ops, (Pseudo.setparams bytes).expand s.cfg.pMax = some ops ∧
        runHostOps ops s = .refused .hostAccessOutside

/-- 30_encoding.md R87: `poll` reads `STATUS` and is repeated exactly while the value's `BUSY` is 1. -/
def Obligations.PollRepeatsWhileBusy : Prop :=
  ∀ s : State,
    hostOp .poll s =
      if busy s then .next { logRead 0x04 (statusWord s) s with hostQueue := .poll :: s.hostQueue }
      else .next (logRead 0x04 (statusWord s) s)

/-! ## The sequencer -/

/-- 40_framing.md R94, R95: a sequencer step emits exactly one event and the command goes on, or it
emits none and completes; while `ACT_OP` is `NONE` there is no step. -/
def Obligations.SequencerEmitsOrCompletes : Prop :=
  ∀ s : State,
    if busy s = true then
      (∃ e n, (sequencerStep s).trace = s.trace ++ [e] ∧ (sequencerStep s).seq = some n ∧
        (sequencerStep s).actOp = s.actOp ∧ (sequencerStep s).done = s.done) ∨
      ((sequencerStep s).trace = s.trace ∧ (sequencerStep s).seq = none ∧
        (sequencerStep s).actOp = .none ∧ (sequencerStep s).done = true)
    else sequencerStep s = s

/-- 00_scope.md R10, R12, 40_framing.md R94, R97: the `rx` of an emitted frame has the length of its `tx`
and is the oracle's answer to it, and `RDATA` changes only in the step of a frame, to byte 1 of its `rx`. -/
def Obligations.FrameAnswerIsRecorded : Prop :=
  ∀ s : State,
    (∀ tx rx, (sequencerStep s).trace = s.trace ++ [.xfer tx rx] →
      (Event.xfer tx rx).rx.length = tx.bytes.length ∧
      ∀ i, i < tx.bytes.length → (Event.xfer tx rx).rx[i]? =
        some ((s.frameAnswers.headD []).getD i (Config.freeRxByte s.frameDraws i))) ∧
    ((sequencerStep s).rdata ≠ s.rdata → ∃ tx rx,
      (sequencerStep s).trace = s.trace ++ [.xfer tx rx] ∧
      (Event.xfer tx rx).rx[1]? = some (sequencerStep s).rdata)

/-- 10_state.md R30, 40_framing.md R91, R93, R94: the frame of a sequencer step: it never writes the
configuration, `CMD`, `ERR`, `ERRCODE`, the operand registers, the latches, or the host's side. -/
def Obligations.SequencerFrame : Prop :=
  ∀ s : State,
    (sequencerStep s).cfg = s.cfg ∧ (sequencerStep s).cmd = s.cmd ∧
    (sequencerStep s).err = s.err ∧ (sequencerStep s).errCode = s.errCode ∧
    (sequencerStep s).arg0 = s.arg0 ∧ (sequencerStep s).arg1 = s.arg1 ∧
    (sequencerStep s).params = s.params ∧ (sequencerStep s).lCmd = s.lCmd ∧
    (sequencerStep s).lArg0 = s.lArg0 ∧ (sequencerStep s).lArg1 = s.lArg1 ∧
    (sequencerStep s).lP = s.lP ∧ (sequencerStep s).readLog = s.readLog ∧
    (sequencerStep s).hostQueue = s.hostQueue ∧ (sequencerStep s).turns = s.turns

/-- 40_framing.md R106: `seq` moves only forward, and a completed command leaves it at `END`. -/
def Obligations.SequencerMovesForward : Prop :=
  ∀ (s : State) (n : Nat), busy s = true → s.seq = some n →
    match (sequencerStep s).seq with
    | some m => n < m
    | none => busy (sequencerStep s) = false

/-- 20_memory.md R65, 40_framing.md R93: host writes of `ARG0`, `ARG1` and `PARAMk` do not reach a
running command, however long it runs. -/
def Obligations.OperandWritesDoNotReachRunningCommand : Prop :=
  ∀ (k : Nat) (s : State) (a0 a1 : Word) (p : ParamRegs),
    runSequencer k { s with arg0 := a0, arg1 := a1, params := p } =
      { runSequencer k s with arg0 := a0, arg1 := a1, params := p }

/-! ## The commands, run to completion -/

/-- 40_framing.md R103: a whole `DCMD`: its events, and everything it leaves. A byte past the 32 of the
buffer, which only a `P_MAX` above 32 lets a command ask for, is a free value (assumption log 25). -/
def Obligations.DcmdRunsToCompletion : Prop :=
  ∀ (s : State) (dop nparam : Byte), s.cfg.Legal → busy s = false → nparam.toNat ≤ s.cfg.pMax →
    ∃ t u, exec (.dcmd dop nparam) s = .next t ∧
      runSequencer (if nparam = 0#8 then 5 else 7) t = u ∧
      sentTrace u = sentTrace s ++ displayCfgEvent s.cfg ::
        frameEvents s.cfg dop
          (parameterBytes (commandWord (.dcmd dop nparam)) s.params nparam.toNat) ∧
      u = { s with
        cmd := commandWord (.dcmd dop nparam), lCmd := commandWord (.dcmd dop nparam)
        lArg0 := s.arg0, lArg1 := s.arg1, lP := s.params
        done := true, actOp := .none, seq := none
        dcOut := if nparam = 0#8 then .cmd else .data
        spiCfg := some { mode := s.cfg.dispMode, div := s.cfg.dispDiv, cs := s.cfg.dispCs }
        trace := u.trace
        frameAnswers := s.frameAnswers.drop (if nparam = 0#8 then 1 else 2)
        frameDraws := s.frameDraws + if nparam = 0#8 then 1 else 2 }

/-- 40_framing.md R104, R97: a whole `TRD`: two events, the second a frame whose answer has the frame's
two bytes, the second of them in `RDATA`. -/
def Obligations.TrdRunsToCompletion : Prop :=
  ∀ (s : State) (taddr : Byte), s.cfg.Legal → busy s = false → taddr < 0x80#8 →
    ∃ t u c tx rx, exec (.trd taddr) s = .next t ∧ runSequencer 3 t = u ∧
      sentTrace u = sentTrace s ++ [touchCfgEvent s.cfg s.touchMode, readEvent s.cfg taddr] ∧
      u.trace = s.trace ++ [.spiCfg c, .xfer tx rx] ∧
      (Event.xfer tx rx).rx.length = tx.bytes.length ∧ (Event.xfer tx rx).rx[1]? = some u.rdata ∧
      u = { s with
        cmd := commandWord (.trd taddr), lCmd := commandWord (.trd taddr)
        lArg0 := s.arg0, lArg1 := s.arg1, lP := s.params
        done := true, actOp := .none, seq := none
        rdata := comingByte s 0
        spiCfg := some
          { mode := if s.touchMode = .alt then s.cfg.modeAlt else s.cfg.modePref
            div := s.cfg.touchDiv, cs := s.cfg.touchCs }
        trace := u.trace
        frameAnswers := s.frameAnswers.drop 1
        frameDraws := s.frameDraws + 1 }

/-- 40_framing.md R105: a whole `TWR`: two events, no read data captured. -/
def Obligations.TwrRunsToCompletion : Prop :=
  ∀ (s : State) (taddr tval : Byte), s.cfg.Legal → busy s = false → taddr < 0x80#8 →
    ∃ t u, exec (.twr taddr tval) s = .next t ∧ runSequencer 3 t = u ∧
      sentTrace u = sentTrace s ++ [touchCfgEvent s.cfg s.touchMode, writeEvent taddr tval] ∧
      u = { s with
        cmd := commandWord (.twr taddr tval), lCmd := commandWord (.twr taddr tval)
        lArg0 := s.arg0, lArg1 := s.arg1, lP := s.params
        done := true, actOp := .none, seq := none
        spiCfg := some
          { mode := if s.touchMode = .alt then s.cfg.modeAlt else s.cfg.modePref
            div := s.cfg.touchDiv, cs := s.cfg.touchCs }
        trace := u.trace
        frameAnswers := s.frameAnswers.drop 1
        frameDraws := s.frameDraws + 1 }

/-- 42_fill.md R140, R141, R143, R144: a whole `FILL`: sixteen events, the stream one frame. -/
def Obligations.FillRunsToCompletion : Prop :=
  ∀ (s : State) (color : Half), s.cfg.Legal → busy s = false →
    s.arg0.extractLsb' 16 16 ≤ s.arg0.extractLsb' 0 16 →
    s.arg1.extractLsb' 16 16 ≤ s.arg1.extractLsb' 0 16 →
    ∃ t u, exec (.fill color) s = .next t ∧ runSequencer 17 t = u ∧
      sentTrace u = sentTrace s ++ fillEvents s.cfg s.arg0 s.arg1 color ∧
      u = { s with
        cmd := commandWord (.fill color), lCmd := commandWord (.fill color)
        lArg0 := s.arg0, lArg1 := s.arg1, lP := s.params
        done := true, actOp := .none, seq := none
        dcOut := .data
        spiCfg := some { mode := s.cfg.dispMode, div := s.cfg.dispDiv, cs := s.cfg.dispCs }
        trace := u.trace
        frameAnswers := s.frameAnswers.drop 6
        frameDraws := s.frameDraws + 6 }

/-- 42_fill.md R143, 40_framing.md R107: the pixel count of a window that is not inverted. -/
def Obligations.PixelCountIsWindowArea : Prop :=
  ∀ s : State, startCoord s.lArg0 ≤ endCoord s.lArg0 → startCoord s.lArg1 ≤ endCoord s.lArg1 →
    (pixelCount s).toNat =
      ((endCoord s.lArg0).toNat - (startCoord s.lArg0).toNat + 1) *
        ((endCoord s.lArg1).toNat - (startCoord s.lArg1).toNat + 1) ∧
    (pixelStream s).bytes.length = 2 * (pixelCount s).toNat ∧
    1 ≤ (extent s.lArg0).toNat ∧ (extent s.lArg0).toNat ≤ 65536 ∧
    1 ≤ (extent s.lArg1).toNat ∧ (extent s.lArg1).toNat ≤ 65536 ∧
    (pixelCount s).toNat ≤ 2 ^ 32

/-- 41_bringup.md R120, R123: a whole `BRINGUP`, for every `INIT_TABLE`: its events in order, the
minimum delays, and everything it leaves. -/
def Obligations.BringupRunsToCompletion : Prop :=
  ∀ s : State, s.cfg.Legal → busy s = false →
    ∃ t u, exec .bringup s = .next t ∧
      runSequencer (14 + 3 * s.cfg.initTable.length +
        2 * (s.cfg.initTable.filter fun e => e.params ≠ []).length) t = u ∧
      sentTrace u = sentTrace s ++ bringupEvents s.cfg ∧
      5000 ≤ s.cfg.tResetUs ∧ 100000 ≤ s.cfg.tSlpoutUs ∧ 20000 ≤ s.cfg.tDisponUs ∧
      u = { s with
        cmd := commandWord .bringup, lCmd := commandWord .bringup
        lArg0 := s.arg0, lArg1 := s.arg1, lP := s.params
        done := true, actOp := .none, seq := none
        buState := .done, buDone := true, buIdx := s.cfg.initTable.length - 1
        dcOut := .cmd
        spiCfg := some { mode := s.cfg.dispMode, div := s.cfg.dispDiv, cs := s.cfg.dispCs }
        trace := u.trace
        frameAnswers := s.frameAnswers.drop (3 + s.cfg.initTable.length +
          (s.cfg.initTable.filter fun e => e.params ≠ []).length)
        frameDraws := s.frameDraws + (3 + s.cfg.initTable.length +
          (s.cfg.initTable.filter fun e => e.params ≠ []).length) }

/-- 41_bringup.md R121: the events emitted while `BU_STATE` holds each value, step by step. -/
def Obligations.BringupStatesFollowEvents : Prop :=
  ∀ s : State, s.cfg.Legal → busy s = false →
    ∃ t, exec .bringup s = .next t ∧ t.buState = .reset ∧ t.trace = s.trace ∧
      (runLog (bringupLog s.cfg).length t).map (fun l => (l.1, l.2.1)) = bringupLog s.cfg

/-- 43_handshake.md R155, R163: the events of a `HANDSHAKE` and the `HS_STATE` after each step, for
every answer of the devices; the completion step is the last. -/
def Obligations.HandshakeStatesFollowEvents : Prop :=
  ∀ s : State, s.cfg.Legal → busy s = false →
    ∃ t log, exec .handshake s = .next t ∧ t.hsState = .cfgPref ∧ t.trace = s.trace ∧
      log = handshakeLog s.cfg (comingId s 0 == s.cfg.chipIdExpected)
        (comingId s 2 == s.cfg.chipIdExpected) (nextLevel s == s.cfg.irqIdleLevel) ∧
      (runLog log.length t).map (fun l => (l.1, l.2.2)) = log

/-- 43_handshake.md R155 to R159, R164, R166: the outcome of a `HANDSHAKE` for every answer of the
devices, and everything it leaves unchanged. -/
def Obligations.HandshakeOutcome : Prop :=
  ∀ (s : State) (first second idle : Bool), s.cfg.Legal → busy s = false →
    first = (comingId s 0 == s.cfg.chipIdExpected) →
    second = (comingId s 2 == s.cfg.chipIdExpected) →
    idle = (nextLevel s == s.cfg.irqIdleLevel) →
    ∃ t u, exec .handshake s = .next t ∧
      runSequencer (handshakeLog s.cfg first second idle).length t = u ∧
      u = { s with
        cmd := commandWord .handshake, lCmd := commandWord .handshake
        lArg0 := s.arg0, lArg1 := s.arg1, lP := s.params
        done := true, actOp := .none, seq := none
        hsResult := if !first && !second then .failId else if !idle then .failIrq else .pass
        hsState := if (first || second) && idle then .pass else .fail
        hsFallback := !first
        touchMode := if first then .pref else .alt
        chipId := if first then comingId s 0 else comingId s 2
        rdata := if first then comingByte s 1 else comingByte s 3
        spiCfg := some
          { mode := if first then s.cfg.modePref else s.cfg.modeAlt
            div := s.cfg.touchDiv, cs := s.cfg.touchCs }
        hsBlink := if (first || second) && idle then 2 * s.cfg.blinkPairs else s.hsBlink
        trace := u.trace, vars := u.vars
        frameAnswers := u.frameAnswers, frameDraws := u.frameDraws
        levelAnswers := u.levelAnswers, levelDraws := u.levelDraws }

/-- 70_reset_and_hazards.md R211: every running command reaches completion, within as many sequencer
steps as its pseudocode has statements. -/
def Obligations.RunningCommandCompletes : Prop :=
  ∀ s : State, Inv s → busy s = true →
    ∃ k, k ≤ (program s).length ∧ busy (runSequencer k s) = false ∧ (runSequencer k s).done = true

/-! ## The whole machine -/

/-- 00_scope.md R10, 40_framing.md R94: a step appends at most one event to the trace, and no step
changes the configuration. -/
def Obligations.TraceGrowsByAtMostOneEvent : Prop :=
  ∀ s t : State, step s = .next t →
    t.cfg = s.cfg ∧ (t.trace = s.trace ∨ ∃ e, t.trace = s.trace ++ [e])

/-- 10_state.md R37, R38: short of a reset, the select line and the SPI configuration change only
with their events, to the value the event carries. -/
def Obligations.BusStateChangesOnlyWithEvents : Prop :=
  ∀ s t : State, step s = .next t → nextTurn s ≠ .reset →
    (t.dcOut = s.dcOut ∨ t.trace = s.trace ++ [.dc (dcLevel s.cfg t.dcOut)]) ∧
    (t.spiCfg = s.spiCfg ∨ ∃ c, t.spiCfg = some c ∧ t.trace = s.trace ++ [.spiCfg c]) ∧
    (∀ l, t.trace = s.trace ++ [.dc l] → l = dcLevel s.cfg t.dcOut) ∧
    (∀ c, t.trace = s.trace ++ [.spiCfg c] → t.spiCfg = some c)

/-- 10_state.md R36, R27, R26: short of a reset, `TOUCH_MODE` and `CHIPID` are written only while a
handshake runs, `RDATA` only while a handshake or a `TRD` runs, and `BU_STATE` only by a `BRINGUP`. -/
def Obligations.ResultsWrittenOnlyByTheirCommands : Prop :=
  ∀ s t : State, step s = .next t → nextTurn s ≠ .reset →
    (s.actOp ≠ .handshake → t.touchMode = s.touchMode ∧ t.chipId = s.chipId) ∧
    (s.actOp ≠ .handshake → s.actOp ≠ .trd → t.rdata = s.rdata) ∧
    (s.actOp ≠ .bringup → t.actOp ≠ .bringup → t.buState = s.buState ∧ t.buDone = s.buDone) ∧
    (s.actOp ≠ .handshake → t.actOp ≠ .handshake →
      t.hsState = s.hsState ∧ t.hsResult = s.hsResult ∧ t.hsFallback = s.hsFallback)

/-- 20_memory.md R61(c): a command starts only when none runs. -/
def Obligations.OneCommandAtATime : Prop :=
  ∀ s t : State, step s = .next t → busy s = true → t.actOp = s.actOp ∨ t.actOp = .none

/-- Every step keeps the invariant of the sequencer and the error record: `seq` and `ACT_OP` agree
and `seq` stands where a step begins (10_state.md R33), the latches hold a legal command, and
`ERRCODE` is 0 exactly when `ERR` is. -/
def Obligations.StepKeepsInv : Prop :=
  ∀ s t : State, Inv s → step s = .next t → Inv t

/-- 41_bringup.md R121, R125: every step keeps `BU_STATE` and `BU_DONE` legal. -/
def Obligations.StepKeepsBringupStatus : Prop :=
  ∀ s t : State, Inv s → bringupOk s = true → step s = .next t → bringupOk t = true

/-- 43_handshake.md R163, R164: every step keeps the handshake's status fields in agreement. -/
def Obligations.StepKeepsHandshakeStatus : Prop :=
  ∀ s t : State, Inv s → handshakeOk s = true → step s = .next t → handshakeOk t = true

/-- 10_state.md R38, 40_framing.md R99: every step keeps the SPI configuration that of the running
command's device and mode. -/
def Obligations.StepKeepsBusConfiguration : Prop :=
  ∀ s t : State, Inv s → busOk s = true → step s = .next t → busOk t = true

/-- The invariants hold at `State.reset`. -/
def Obligations.ResetMeetsInvariants : Prop :=
  Inv State.reset ∧ bringupOk State.reset = true ∧ handshakeOk State.reset = true ∧
    busOk State.reset = true
end

