-- ==== Sys2Proof/Laws/State.lean ====
section
/-! SUPPORT. One lemma per field per shared update of the state, each true by `rfl`: what the update
writes, and what it leaves. -/

namespace Sys2Proof.Machine

variable (s : State)

@[simp] theorem emit_cfg (e : Event) : (emit e s).cfg = s.cfg := rfl
@[simp] theorem emit_cmd (e : Event) : (emit e s).cmd = s.cmd := rfl
@[simp] theorem emit_done (e : Event) : (emit e s).done = s.done := rfl
@[simp] theorem emit_err (e : Event) : (emit e s).err = s.err := rfl
@[simp] theorem emit_errCode (e : Event) : (emit e s).errCode = s.errCode := rfl
@[simp] theorem emit_hsResult (e : Event) : (emit e s).hsResult = s.hsResult := rfl
@[simp] theorem emit_hsFallback (e : Event) : (emit e s).hsFallback = s.hsFallback := rfl
@[simp] theorem emit_touchMode (e : Event) : (emit e s).touchMode = s.touchMode := rfl
@[simp] theorem emit_buDone (e : Event) : (emit e s).buDone = s.buDone := rfl
@[simp] theorem emit_buState (e : Event) : (emit e s).buState = s.buState := rfl
@[simp] theorem emit_hsState (e : Event) : (emit e s).hsState = s.hsState := rfl
@[simp] theorem emit_arg0 (e : Event) : (emit e s).arg0 = s.arg0 := rfl
@[simp] theorem emit_arg1 (e : Event) : (emit e s).arg1 = s.arg1 := rfl
@[simp] theorem emit_rdata (e : Event) : (emit e s).rdata = s.rdata := rfl
@[simp] theorem emit_chipId (e : Event) : (emit e s).chipId = s.chipId := rfl
@[simp] theorem emit_params (e : Event) : (emit e s).params = s.params := rfl
@[simp] theorem emit_lCmd (e : Event) : (emit e s).lCmd = s.lCmd := rfl
@[simp] theorem emit_lArg0 (e : Event) : (emit e s).lArg0 = s.lArg0 := rfl
@[simp] theorem emit_lArg1 (e : Event) : (emit e s).lArg1 = s.lArg1 := rfl
@[simp] theorem emit_lP (e : Event) : (emit e s).lP = s.lP := rfl
@[simp] theorem emit_actOp (e : Event) : (emit e s).actOp = s.actOp := rfl
@[simp] theorem emit_seq (e : Event) : (emit e s).seq = s.seq := rfl
@[simp] theorem emit_buIdx (e : Event) : (emit e s).buIdx = s.buIdx := rfl
@[simp] theorem emit_hsBlink (e : Event) : (emit e s).hsBlink = s.hsBlink := rfl
@[simp] theorem emit_vars (e : Event) : (emit e s).vars = s.vars := rfl
@[simp] theorem emit_dcOut (e : Event) : (emit e s).dcOut = s.dcOut := rfl
@[simp] theorem emit_spiCfg (e : Event) : (emit e s).spiCfg = s.spiCfg := rfl
@[simp] theorem emit_trace (e : Event) : (emit e s).trace = s.trace ++ [e] := rfl
@[simp] theorem emit_readLog (e : Event) : (emit e s).readLog = s.readLog := rfl
@[simp] theorem emit_hostQueue (e : Event) : (emit e s).hostQueue = s.hostQueue := rfl
@[simp] theorem emit_turns (e : Event) : (emit e s).turns = s.turns := rfl
@[simp] theorem emit_frameAnswers (e : Event) : (emit e s).frameAnswers = s.frameAnswers := rfl
@[simp] theorem emit_levelAnswers (e : Event) : (emit e s).levelAnswers = s.levelAnswers := rfl
@[simp] theorem emit_frameDraws (e : Event) : (emit e s).frameDraws = s.frameDraws := rfl
@[simp] theorem emit_levelDraws (e : Event) : (emit e s).levelDraws = s.levelDraws := rfl

@[simp] theorem emitXfer_cfg (tx : Burst) : (emitXfer tx s).cfg = s.cfg := rfl
@[simp] theorem emitXfer_cmd (tx : Burst) : (emitXfer tx s).cmd = s.cmd := rfl
@[simp] theorem emitXfer_done (tx : Burst) : (emitXfer tx s).done = s.done := rfl
@[simp] theorem emitXfer_err (tx : Burst) : (emitXfer tx s).err = s.err := rfl
@[simp] theorem emitXfer_errCode (tx : Burst) : (emitXfer tx s).errCode = s.errCode := rfl
@[simp] theorem emitXfer_hsResult (tx : Burst) : (emitXfer tx s).hsResult = s.hsResult := rfl
@[simp] theorem emitXfer_hsFallback (tx : Burst) : (emitXfer tx s).hsFallback = s.hsFallback := rfl
@[simp] theorem emitXfer_touchMode (tx : Burst) : (emitXfer tx s).touchMode = s.touchMode := rfl
@[simp] theorem emitXfer_buDone (tx : Burst) : (emitXfer tx s).buDone = s.buDone := rfl
@[simp] theorem emitXfer_buState (tx : Burst) : (emitXfer tx s).buState = s.buState := rfl
@[simp] theorem emitXfer_hsState (tx : Burst) : (emitXfer tx s).hsState = s.hsState := rfl
@[simp] theorem emitXfer_arg0 (tx : Burst) : (emitXfer tx s).arg0 = s.arg0 := rfl
@[simp] theorem emitXfer_arg1 (tx : Burst) : (emitXfer tx s).arg1 = s.arg1 := rfl
@[simp] theorem emitXfer_rdata (tx : Burst) : (emitXfer tx s).rdata = s.rdata := rfl
@[simp] theorem emitXfer_chipId (tx : Burst) : (emitXfer tx s).chipId = s.chipId := rfl
@[simp] theorem emitXfer_params (tx : Burst) : (emitXfer tx s).params = s.params := rfl
@[simp] theorem emitXfer_lCmd (tx : Burst) : (emitXfer tx s).lCmd = s.lCmd := rfl
@[simp] theorem emitXfer_lArg0 (tx : Burst) : (emitXfer tx s).lArg0 = s.lArg0 := rfl
@[simp] theorem emitXfer_lArg1 (tx : Burst) : (emitXfer tx s).lArg1 = s.lArg1 := rfl
@[simp] theorem emitXfer_lP (tx : Burst) : (emitXfer tx s).lP = s.lP := rfl
@[simp] theorem emitXfer_actOp (tx : Burst) : (emitXfer tx s).actOp = s.actOp := rfl
@[simp] theorem emitXfer_seq (tx : Burst) : (emitXfer tx s).seq = s.seq := rfl
@[simp] theorem emitXfer_buIdx (tx : Burst) : (emitXfer tx s).buIdx = s.buIdx := rfl
@[simp] theorem emitXfer_hsBlink (tx : Burst) : (emitXfer tx s).hsBlink = s.hsBlink := rfl
@[simp] theorem emitXfer_vars (tx : Burst) : (emitXfer tx s).vars = s.vars := rfl
@[simp] theorem emitXfer_dcOut (tx : Burst) : (emitXfer tx s).dcOut = s.dcOut := rfl
@[simp] theorem emitXfer_spiCfg (tx : Burst) : (emitXfer tx s).spiCfg = s.spiCfg := rfl
@[simp] theorem emitXfer_trace (tx : Burst) :
    (emitXfer tx s).trace = s.trace ++ [.xfer tx (nextRx s)] := rfl
@[simp] theorem emitXfer_readLog (tx : Burst) : (emitXfer tx s).readLog = s.readLog := rfl
@[simp] theorem emitXfer_hostQueue (tx : Burst) : (emitXfer tx s).hostQueue = s.hostQueue := rfl
@[simp] theorem emitXfer_turns (tx : Burst) : (emitXfer tx s).turns = s.turns := rfl
@[simp] theorem emitXfer_frameAnswers (tx : Burst) :
    (emitXfer tx s).frameAnswers = s.frameAnswers.tail := rfl
@[simp] theorem emitXfer_levelAnswers (tx : Burst) :
    (emitXfer tx s).levelAnswers = s.levelAnswers := rfl
@[simp] theorem emitXfer_frameDraws (tx : Burst) :
    (emitXfer tx s).frameDraws = s.frameDraws + 1 := rfl
@[simp] theorem emitXfer_levelDraws (tx : Burst) : (emitXfer tx s).levelDraws = s.levelDraws := rfl

@[simp] theorem emitSample_cfg : (emitSample s).cfg = s.cfg := rfl
@[simp] theorem emitSample_cmd : (emitSample s).cmd = s.cmd := rfl
@[simp] theorem emitSample_done : (emitSample s).done = s.done := rfl
@[simp] theorem emitSample_err : (emitSample s).err = s.err := rfl
@[simp] theorem emitSample_errCode : (emitSample s).errCode = s.errCode := rfl
@[simp] theorem emitSample_hsResult : (emitSample s).hsResult = s.hsResult := rfl
@[simp] theorem emitSample_hsFallback : (emitSample s).hsFallback = s.hsFallback := rfl
@[simp] theorem emitSample_touchMode : (emitSample s).touchMode = s.touchMode := rfl
@[simp] theorem emitSample_buDone : (emitSample s).buDone = s.buDone := rfl
@[simp] theorem emitSample_buState : (emitSample s).buState = s.buState := rfl
@[simp] theorem emitSample_hsState : (emitSample s).hsState = s.hsState := rfl
@[simp] theorem emitSample_arg0 : (emitSample s).arg0 = s.arg0 := rfl
@[simp] theorem emitSample_arg1 : (emitSample s).arg1 = s.arg1 := rfl
@[simp] theorem emitSample_rdata : (emitSample s).rdata = s.rdata := rfl
@[simp] theorem emitSample_chipId : (emitSample s).chipId = s.chipId := rfl
@[simp] theorem emitSample_params : (emitSample s).params = s.params := rfl
@[simp] theorem emitSample_lCmd : (emitSample s).lCmd = s.lCmd := rfl
@[simp] theorem emitSample_lArg0 : (emitSample s).lArg0 = s.lArg0 := rfl
@[simp] theorem emitSample_lArg1 : (emitSample s).lArg1 = s.lArg1 := rfl
@[simp] theorem emitSample_lP : (emitSample s).lP = s.lP := rfl
@[simp] theorem emitSample_actOp : (emitSample s).actOp = s.actOp := rfl
@[simp] theorem emitSample_seq : (emitSample s).seq = s.seq := rfl
@[simp] theorem emitSample_buIdx : (emitSample s).buIdx = s.buIdx := rfl
@[simp] theorem emitSample_hsBlink : (emitSample s).hsBlink = s.hsBlink := rfl
@[simp] theorem emitSample_vars : (emitSample s).vars = s.vars := rfl
@[simp] theorem emitSample_dcOut : (emitSample s).dcOut = s.dcOut := rfl
@[simp] theorem emitSample_spiCfg : (emitSample s).spiCfg = s.spiCfg := rfl
@[simp] theorem emitSample_trace :
    (emitSample s).trace = s.trace ++ [.irqSample (nextLevel s)] := rfl
@[simp] theorem emitSample_readLog : (emitSample s).readLog = s.readLog := rfl
@[simp] theorem emitSample_hostQueue : (emitSample s).hostQueue = s.hostQueue := rfl
@[simp] theorem emitSample_turns : (emitSample s).turns = s.turns := rfl
@[simp] theorem emitSample_frameAnswers : (emitSample s).frameAnswers = s.frameAnswers := rfl
@[simp] theorem emitSample_levelAnswers : (emitSample s).levelAnswers = s.levelAnswers.tail := rfl
@[simp] theorem emitSample_frameDraws : (emitSample s).frameDraws = s.frameDraws := rfl
@[simp] theorem emitSample_levelDraws : (emitSample s).levelDraws = s.levelDraws + 1 := rfl

@[simp] theorem reject_cfg (c : ErrCode) : (reject c s).cfg = s.cfg := rfl
@[simp] theorem reject_cmd (c : ErrCode) : (reject c s).cmd = s.cmd := rfl
@[simp] theorem reject_done (c : ErrCode) : (reject c s).done = s.done := rfl
@[simp] theorem reject_err (c : ErrCode) : (reject c s).err = true := rfl
@[simp] theorem reject_errCode (c : ErrCode) : (reject c s).errCode = c := rfl
@[simp] theorem reject_hsResult (c : ErrCode) : (reject c s).hsResult = s.hsResult := rfl
@[simp] theorem reject_hsFallback (c : ErrCode) : (reject c s).hsFallback = s.hsFallback := rfl
@[simp] theorem reject_touchMode (c : ErrCode) : (reject c s).touchMode = s.touchMode := rfl
@[simp] theorem reject_buDone (c : ErrCode) : (reject c s).buDone = s.buDone := rfl
@[simp] theorem reject_buState (c : ErrCode) : (reject c s).buState = s.buState := rfl
@[simp] theorem reject_hsState (c : ErrCode) : (reject c s).hsState = s.hsState := rfl
@[simp] theorem reject_arg0 (c : ErrCode) : (reject c s).arg0 = s.arg0 := rfl
@[simp] theorem reject_arg1 (c : ErrCode) : (reject c s).arg1 = s.arg1 := rfl
@[simp] theorem reject_rdata (c : ErrCode) : (reject c s).rdata = s.rdata := rfl
@[simp] theorem reject_chipId (c : ErrCode) : (reject c s).chipId = s.chipId := rfl
@[simp] theorem reject_params (c : ErrCode) : (reject c s).params = s.params := rfl
@[simp] theorem reject_lCmd (c : ErrCode) : (reject c s).lCmd = s.lCmd := rfl
@[simp] theorem reject_lArg0 (c : ErrCode) : (reject c s).lArg0 = s.lArg0 := rfl
@[simp] theorem reject_lArg1 (c : ErrCode) : (reject c s).lArg1 = s.lArg1 := rfl
@[simp] theorem reject_lP (c : ErrCode) : (reject c s).lP = s.lP := rfl
@[simp] theorem reject_actOp (c : ErrCode) : (reject c s).actOp = s.actOp := rfl
@[simp] theorem reject_seq (c : ErrCode) : (reject c s).seq = s.seq := rfl
@[simp] theorem reject_buIdx (c : ErrCode) : (reject c s).buIdx = s.buIdx := rfl
@[simp] theorem reject_hsBlink (c : ErrCode) : (reject c s).hsBlink = s.hsBlink := rfl
@[simp] theorem reject_vars (c : ErrCode) : (reject c s).vars = s.vars := rfl
@[simp] theorem reject_dcOut (c : ErrCode) : (reject c s).dcOut = s.dcOut := rfl
@[simp] theorem reject_spiCfg (c : ErrCode) : (reject c s).spiCfg = s.spiCfg := rfl
@[simp] theorem reject_trace (c : ErrCode) : (reject c s).trace = s.trace := rfl
@[simp] theorem reject_readLog (c : ErrCode) : (reject c s).readLog = s.readLog := rfl
@[simp] theorem reject_hostQueue (c : ErrCode) : (reject c s).hostQueue = s.hostQueue := rfl
@[simp] theorem reject_turns (c : ErrCode) : (reject c s).turns = s.turns := rfl
@[simp] theorem reject_frameAnswers (c : ErrCode) :
    (reject c s).frameAnswers = s.frameAnswers := rfl
@[simp] theorem reject_levelAnswers (c : ErrCode) :
    (reject c s).levelAnswers = s.levelAnswers := rfl
@[simp] theorem reject_frameDraws (c : ErrCode) : (reject c s).frameDraws = s.frameDraws := rfl
@[simp] theorem reject_levelDraws (c : ErrCode) : (reject c s).levelDraws = s.levelDraws := rfl

@[simp] theorem clearStatus_cfg (v : Word) : (clearStatus v s).cfg = s.cfg := rfl
@[simp] theorem clearStatus_cmd (v : Word) : (clearStatus v s).cmd = s.cmd := rfl
@[simp] theorem clearStatus_done (v : Word) :
    (clearStatus v s).done = (s.done && !v.getLsbD 1) := rfl
@[simp] theorem clearStatus_err (v : Word) : (clearStatus v s).err = (s.err && !v.getLsbD 2) := rfl
@[simp] theorem clearStatus_errCode (v : Word) :
    (clearStatus v s).errCode = if v.getLsbD 2 then .none else s.errCode := rfl
@[simp] theorem clearStatus_hsResult (v : Word) : (clearStatus v s).hsResult = s.hsResult := rfl
@[simp] theorem clearStatus_hsFallback (v : Word) :
    (clearStatus v s).hsFallback = s.hsFallback := rfl
@[simp] theorem clearStatus_touchMode (v : Word) : (clearStatus v s).touchMode = s.touchMode := rfl
@[simp] theorem clearStatus_buDone (v : Word) : (clearStatus v s).buDone = s.buDone := rfl
@[simp] theorem clearStatus_buState (v : Word) : (clearStatus v s).buState = s.buState := rfl
@[simp] theorem clearStatus_hsState (v : Word) : (clearStatus v s).hsState = s.hsState := rfl
@[simp] theorem clearStatus_arg0 (v : Word) : (clearStatus v s).arg0 = s.arg0 := rfl
@[simp] theorem clearStatus_arg1 (v : Word) : (clearStatus v s).arg1 = s.arg1 := rfl
@[simp] theorem clearStatus_rdata (v : Word) : (clearStatus v s).rdata = s.rdata := rfl
@[simp] theorem clearStatus_chipId (v : Word) : (clearStatus v s).chipId = s.chipId := rfl
@[simp] theorem clearStatus_params (v : Word) : (clearStatus v s).params = s.params := rfl
@[simp] theorem clearStatus_lCmd (v : Word) : (clearStatus v s).lCmd = s.lCmd := rfl
@[simp] theorem clearStatus_lArg0 (v : Word) : (clearStatus v s).lArg0 = s.lArg0 := rfl
@[simp] theorem clearStatus_lArg1 (v : Word) : (clearStatus v s).lArg1 = s.lArg1 := rfl
@[simp] theorem clearStatus_lP (v : Word) : (clearStatus v s).lP = s.lP := rfl
@[simp] theorem clearStatus_actOp (v : Word) : (clearStatus v s).actOp = s.actOp := rfl
@[simp] theorem clearStatus_seq (v : Word) : (clearStatus v s).seq = s.seq := rfl
@[simp] theorem clearStatus_buIdx (v : Word) : (clearStatus v s).buIdx = s.buIdx := rfl
@[simp] theorem clearStatus_hsBlink (v : Word) : (clearStatus v s).hsBlink = s.hsBlink := rfl
@[simp] theorem clearStatus_vars (v : Word) : (clearStatus v s).vars = s.vars := rfl
@[simp] theorem clearStatus_dcOut (v : Word) : (clearStatus v s).dcOut = s.dcOut := rfl
@[simp] theorem clearStatus_spiCfg (v : Word) : (clearStatus v s).spiCfg = s.spiCfg := rfl
@[simp] theorem clearStatus_trace (v : Word) : (clearStatus v s).trace = s.trace := rfl
@[simp] theorem clearStatus_readLog (v : Word) : (clearStatus v s).readLog = s.readLog := rfl
@[simp] theorem clearStatus_hostQueue (v : Word) : (clearStatus v s).hostQueue = s.hostQueue := rfl
@[simp] theorem clearStatus_turns (v : Word) : (clearStatus v s).turns = s.turns := rfl
@[simp] theorem clearStatus_frameAnswers (v : Word) :
    (clearStatus v s).frameAnswers = s.frameAnswers := rfl
@[simp] theorem clearStatus_levelAnswers (v : Word) :
    (clearStatus v s).levelAnswers = s.levelAnswers := rfl
@[simp] theorem clearStatus_frameDraws (v : Word) :
    (clearStatus v s).frameDraws = s.frameDraws := rfl
@[simp] theorem clearStatus_levelDraws (v : Word) :
    (clearStatus v s).levelDraws = s.levelDraws := rfl

@[simp] theorem acceptWord_cfg (w : Word) : (acceptWord w s).cfg = s.cfg := rfl
@[simp] theorem acceptWord_cmd (w : Word) : (acceptWord w s).cmd = w := rfl
@[simp] theorem acceptWord_done (w : Word) : (acceptWord w s).done = false := rfl
@[simp] theorem acceptWord_err (w : Word) : (acceptWord w s).err = s.err := rfl
@[simp] theorem acceptWord_errCode (w : Word) : (acceptWord w s).errCode = s.errCode := rfl
@[simp] theorem acceptWord_hsResult (w : Word) : (acceptWord w s).hsResult = s.hsResult := rfl
@[simp] theorem acceptWord_hsFallback (w : Word) : (acceptWord w s).hsFallback = s.hsFallback := rfl
@[simp] theorem acceptWord_touchMode (w : Word) : (acceptWord w s).touchMode = s.touchMode := rfl
@[simp] theorem acceptWord_buDone (w : Word) : (acceptWord w s).buDone = s.buDone := rfl
@[simp] theorem acceptWord_buState (w : Word) : (acceptWord w s).buState = s.buState := rfl
@[simp] theorem acceptWord_hsState (w : Word) : (acceptWord w s).hsState = s.hsState := rfl
@[simp] theorem acceptWord_arg0 (w : Word) : (acceptWord w s).arg0 = s.arg0 := rfl
@[simp] theorem acceptWord_arg1 (w : Word) : (acceptWord w s).arg1 = s.arg1 := rfl
@[simp] theorem acceptWord_rdata (w : Word) : (acceptWord w s).rdata = s.rdata := rfl
@[simp] theorem acceptWord_chipId (w : Word) : (acceptWord w s).chipId = s.chipId := rfl
@[simp] theorem acceptWord_params (w : Word) : (acceptWord w s).params = s.params := rfl
@[simp] theorem acceptWord_lCmd (w : Word) : (acceptWord w s).lCmd = w := rfl
@[simp] theorem acceptWord_lArg0 (w : Word) : (acceptWord w s).lArg0 = s.arg0 := rfl
@[simp] theorem acceptWord_lArg1 (w : Word) : (acceptWord w s).lArg1 = s.arg1 := rfl
@[simp] theorem acceptWord_lP (w : Word) : (acceptWord w s).lP = s.params := rfl
@[simp] theorem acceptWord_actOp (w : Word) : (acceptWord w s).actOp = s.actOp := rfl
@[simp] theorem acceptWord_seq (w : Word) : (acceptWord w s).seq = s.seq := rfl
@[simp] theorem acceptWord_buIdx (w : Word) : (acceptWord w s).buIdx = s.buIdx := rfl
@[simp] theorem acceptWord_hsBlink (w : Word) : (acceptWord w s).hsBlink = s.hsBlink := rfl
@[simp] theorem acceptWord_vars (w : Word) : (acceptWord w s).vars = s.vars := rfl
@[simp] theorem acceptWord_dcOut (w : Word) : (acceptWord w s).dcOut = s.dcOut := rfl
@[simp] theorem acceptWord_spiCfg (w : Word) : (acceptWord w s).spiCfg = s.spiCfg := rfl
@[simp] theorem acceptWord_trace (w : Word) : (acceptWord w s).trace = s.trace := rfl
@[simp] theorem acceptWord_readLog (w : Word) : (acceptWord w s).readLog = s.readLog := rfl
@[simp] theorem acceptWord_hostQueue (w : Word) : (acceptWord w s).hostQueue = s.hostQueue := rfl
@[simp] theorem acceptWord_turns (w : Word) : (acceptWord w s).turns = s.turns := rfl
@[simp] theorem acceptWord_frameAnswers (w : Word) :
    (acceptWord w s).frameAnswers = s.frameAnswers := rfl
@[simp] theorem acceptWord_levelAnswers (w : Word) :
    (acceptWord w s).levelAnswers = s.levelAnswers := rfl
@[simp] theorem acceptWord_frameDraws (w : Word) : (acceptWord w s).frameDraws = s.frameDraws := rfl
@[simp] theorem acceptWord_levelDraws (w : Word) : (acceptWord w s).levelDraws = s.levelDraws := rfl

@[simp] theorem startCommand_cfg (op : ActOp) : (startCommand op s).cfg = s.cfg := rfl
@[simp] theorem startCommand_cmd (op : ActOp) : (startCommand op s).cmd = s.cmd := rfl
@[simp] theorem startCommand_done (op : ActOp) : (startCommand op s).done = s.done := rfl
@[simp] theorem startCommand_err (op : ActOp) : (startCommand op s).err = s.err := rfl
@[simp] theorem startCommand_errCode (op : ActOp) : (startCommand op s).errCode = s.errCode := rfl
@[simp] theorem startCommand_hsResult (op : ActOp) :
    (startCommand op s).hsResult = s.hsResult := rfl
@[simp] theorem startCommand_hsFallback (op : ActOp) :
    (startCommand op s).hsFallback = s.hsFallback := rfl
@[simp] theorem startCommand_touchMode (op : ActOp) :
    (startCommand op s).touchMode = s.touchMode := rfl
@[simp] theorem startCommand_buDone (op : ActOp) : (startCommand op s).buDone = s.buDone := rfl
@[simp] theorem startCommand_buState (op : ActOp) : (startCommand op s).buState = s.buState := rfl
@[simp] theorem startCommand_hsState (op : ActOp) : (startCommand op s).hsState = s.hsState := rfl
@[simp] theorem startCommand_arg0 (op : ActOp) : (startCommand op s).arg0 = s.arg0 := rfl
@[simp] theorem startCommand_arg1 (op : ActOp) : (startCommand op s).arg1 = s.arg1 := rfl
@[simp] theorem startCommand_rdata (op : ActOp) : (startCommand op s).rdata = s.rdata := rfl
@[simp] theorem startCommand_chipId (op : ActOp) : (startCommand op s).chipId = s.chipId := rfl
@[simp] theorem startCommand_params (op : ActOp) : (startCommand op s).params = s.params := rfl
@[simp] theorem startCommand_lCmd (op : ActOp) : (startCommand op s).lCmd = s.lCmd := rfl
@[simp] theorem startCommand_lArg0 (op : ActOp) : (startCommand op s).lArg0 = s.lArg0 := rfl
@[simp] theorem startCommand_lArg1 (op : ActOp) : (startCommand op s).lArg1 = s.lArg1 := rfl
@[simp] theorem startCommand_lP (op : ActOp) : (startCommand op s).lP = s.lP := rfl
@[simp] theorem startCommand_actOp (op : ActOp) : (startCommand op s).actOp = op := rfl
@[simp] theorem startCommand_seq (op : ActOp) : (startCommand op s).seq = some 0 := rfl
@[simp] theorem startCommand_buIdx (op : ActOp) : (startCommand op s).buIdx = s.buIdx := rfl
@[simp] theorem startCommand_hsBlink (op : ActOp) : (startCommand op s).hsBlink = s.hsBlink := rfl
@[simp] theorem startCommand_vars (op : ActOp) : (startCommand op s).vars = s.vars := rfl
@[simp] theorem startCommand_dcOut (op : ActOp) : (startCommand op s).dcOut = s.dcOut := rfl
@[simp] theorem startCommand_spiCfg (op : ActOp) : (startCommand op s).spiCfg = s.spiCfg := rfl
@[simp] theorem startCommand_trace (op : ActOp) : (startCommand op s).trace = s.trace := rfl
@[simp] theorem startCommand_readLog (op : ActOp) : (startCommand op s).readLog = s.readLog := rfl
@[simp] theorem startCommand_hostQueue (op : ActOp) :
    (startCommand op s).hostQueue = s.hostQueue := rfl
@[simp] theorem startCommand_turns (op : ActOp) : (startCommand op s).turns = s.turns := rfl
@[simp] theorem startCommand_frameAnswers (op : ActOp) :
    (startCommand op s).frameAnswers = s.frameAnswers := rfl
@[simp] theorem startCommand_levelAnswers (op : ActOp) :
    (startCommand op s).levelAnswers = s.levelAnswers := rfl
@[simp] theorem startCommand_frameDraws (op : ActOp) :
    (startCommand op s).frameDraws = s.frameDraws := rfl
@[simp] theorem startCommand_levelDraws (op : ActOp) :
    (startCommand op s).levelDraws = s.levelDraws := rfl

@[simp] theorem complete_cfg : (complete s).cfg = s.cfg := rfl
@[simp] theorem complete_cmd : (complete s).cmd = s.cmd := rfl
@[simp] theorem complete_done : (complete s).done = true := rfl
@[simp] theorem complete_err : (complete s).err = s.err := rfl
@[simp] theorem complete_errCode : (complete s).errCode = s.errCode := rfl
@[simp] theorem complete_hsResult : (complete s).hsResult = s.hsResult := rfl
@[simp] theorem complete_hsFallback : (complete s).hsFallback = s.hsFallback := rfl
@[simp] theorem complete_touchMode : (complete s).touchMode = s.touchMode := rfl
@[simp] theorem complete_buDone : (complete s).buDone = s.buDone := rfl
@[simp] theorem complete_buState : (complete s).buState = s.buState := rfl
@[simp] theorem complete_hsState : (complete s).hsState = s.hsState := rfl
@[simp] theorem complete_arg0 : (complete s).arg0 = s.arg0 := rfl
@[simp] theorem complete_arg1 : (complete s).arg1 = s.arg1 := rfl
@[simp] theorem complete_rdata : (complete s).rdata = s.rdata := rfl
@[simp] theorem complete_chipId : (complete s).chipId = s.chipId := rfl
@[simp] theorem complete_params : (complete s).params = s.params := rfl
@[simp] theorem complete_lCmd : (complete s).lCmd = s.lCmd := rfl
@[simp] theorem complete_lArg0 : (complete s).lArg0 = s.lArg0 := rfl
@[simp] theorem complete_lArg1 : (complete s).lArg1 = s.lArg1 := rfl
@[simp] theorem complete_lP : (complete s).lP = s.lP := rfl
@[simp] theorem complete_actOp : (complete s).actOp = .none := rfl
@[simp] theorem complete_seq : (complete s).seq = none := rfl
@[simp] theorem complete_buIdx : (complete s).buIdx = s.buIdx := rfl
@[simp] theorem complete_hsBlink : (complete s).hsBlink = s.hsBlink := rfl
@[simp] theorem complete_vars : (complete s).vars = s.vars := rfl
@[simp] theorem complete_dcOut : (complete s).dcOut = s.dcOut := rfl
@[simp] theorem complete_spiCfg : (complete s).spiCfg = s.spiCfg := rfl
@[simp] theorem complete_trace : (complete s).trace = s.trace := rfl
@[simp] theorem complete_readLog : (complete s).readLog = s.readLog := rfl
@[simp] theorem complete_hostQueue : (complete s).hostQueue = s.hostQueue := rfl
@[simp] theorem complete_turns : (complete s).turns = s.turns := rfl
@[simp] theorem complete_frameAnswers : (complete s).frameAnswers = s.frameAnswers := rfl
@[simp] theorem complete_levelAnswers : (complete s).levelAnswers = s.levelAnswers := rfl
@[simp] theorem complete_frameDraws : (complete s).frameDraws = s.frameDraws := rfl
@[simp] theorem complete_levelDraws : (complete s).levelDraws = s.levelDraws := rfl

@[simp] theorem takeTurn_cfg : (takeTurn s).cfg = s.cfg := rfl
@[simp] theorem takeTurn_cmd : (takeTurn s).cmd = s.cmd := rfl
@[simp] theorem takeTurn_done : (takeTurn s).done = s.done := rfl
@[simp] theorem takeTurn_err : (takeTurn s).err = s.err := rfl
@[simp] theorem takeTurn_errCode : (takeTurn s).errCode = s.errCode := rfl
@[simp] theorem takeTurn_hsResult : (takeTurn s).hsResult = s.hsResult := rfl
@[simp] theorem takeTurn_hsFallback : (takeTurn s).hsFallback = s.hsFallback := rfl
@[simp] theorem takeTurn_touchMode : (takeTurn s).touchMode = s.touchMode := rfl
@[simp] theorem takeTurn_buDone : (takeTurn s).buDone = s.buDone := rfl
@[simp] theorem takeTurn_buState : (takeTurn s).buState = s.buState := rfl
@[simp] theorem takeTurn_hsState : (takeTurn s).hsState = s.hsState := rfl
@[simp] theorem takeTurn_arg0 : (takeTurn s).arg0 = s.arg0 := rfl
@[simp] theorem takeTurn_arg1 : (takeTurn s).arg1 = s.arg1 := rfl
@[simp] theorem takeTurn_rdata : (takeTurn s).rdata = s.rdata := rfl
@[simp] theorem takeTurn_chipId : (takeTurn s).chipId = s.chipId := rfl
@[simp] theorem takeTurn_params : (takeTurn s).params = s.params := rfl
@[simp] theorem takeTurn_lCmd : (takeTurn s).lCmd = s.lCmd := rfl
@[simp] theorem takeTurn_lArg0 : (takeTurn s).lArg0 = s.lArg0 := rfl
@[simp] theorem takeTurn_lArg1 : (takeTurn s).lArg1 = s.lArg1 := rfl
@[simp] theorem takeTurn_lP : (takeTurn s).lP = s.lP := rfl
@[simp] theorem takeTurn_actOp : (takeTurn s).actOp = s.actOp := rfl
@[simp] theorem takeTurn_seq : (takeTurn s).seq = s.seq := rfl
@[simp] theorem takeTurn_buIdx : (takeTurn s).buIdx = s.buIdx := rfl
@[simp] theorem takeTurn_hsBlink : (takeTurn s).hsBlink = s.hsBlink := rfl
@[simp] theorem takeTurn_vars : (takeTurn s).vars = s.vars := rfl
@[simp] theorem takeTurn_dcOut : (takeTurn s).dcOut = s.dcOut := rfl
@[simp] theorem takeTurn_spiCfg : (takeTurn s).spiCfg = s.spiCfg := rfl
@[simp] theorem takeTurn_trace : (takeTurn s).trace = s.trace := rfl
@[simp] theorem takeTurn_readLog : (takeTurn s).readLog = s.readLog := rfl
@[simp] theorem takeTurn_hostQueue : (takeTurn s).hostQueue = s.hostQueue := rfl
@[simp] theorem takeTurn_turns : (takeTurn s).turns = s.turns.tail := rfl
@[simp] theorem takeTurn_frameAnswers : (takeTurn s).frameAnswers = s.frameAnswers := rfl
@[simp] theorem takeTurn_levelAnswers : (takeTurn s).levelAnswers = s.levelAnswers := rfl
@[simp] theorem takeTurn_frameDraws : (takeTurn s).frameDraws = s.frameDraws := rfl
@[simp] theorem takeTurn_levelDraws : (takeTurn s).levelDraws = s.levelDraws := rfl

@[simp] theorem logRead_cfg (off : Nat) (v : Word) : (logRead off v s).cfg = s.cfg := rfl
@[simp] theorem logRead_cmd (off : Nat) (v : Word) : (logRead off v s).cmd = s.cmd := rfl
@[simp] theorem logRead_done (off : Nat) (v : Word) : (logRead off v s).done = s.done := rfl
@[simp] theorem logRead_err (off : Nat) (v : Word) : (logRead off v s).err = s.err := rfl
@[simp] theorem logRead_errCode (off : Nat) (v : Word) :
    (logRead off v s).errCode = s.errCode := rfl
@[simp] theorem logRead_hsResult (off : Nat) (v : Word) :
    (logRead off v s).hsResult = s.hsResult := rfl
@[simp] theorem logRead_hsFallback (off : Nat) (v : Word) :
    (logRead off v s).hsFallback = s.hsFallback := rfl
@[simp] theorem logRead_touchMode (off : Nat) (v : Word) :
    (logRead off v s).touchMode = s.touchMode := rfl
@[simp] theorem logRead_buDone (off : Nat) (v : Word) : (logRead off v s).buDone = s.buDone := rfl
@[simp] theorem logRead_buState (off : Nat) (v : Word) :
    (logRead off v s).buState = s.buState := rfl
@[simp] theorem logRead_hsState (off : Nat) (v : Word) :
    (logRead off v s).hsState = s.hsState := rfl
@[simp] theorem logRead_arg0 (off : Nat) (v : Word) : (logRead off v s).arg0 = s.arg0 := rfl
@[simp] theorem logRead_arg1 (off : Nat) (v : Word) : (logRead off v s).arg1 = s.arg1 := rfl
@[simp] theorem logRead_rdata (off : Nat) (v : Word) : (logRead off v s).rdata = s.rdata := rfl
@[simp] theorem logRead_chipId (off : Nat) (v : Word) : (logRead off v s).chipId = s.chipId := rfl
@[simp] theorem logRead_params (off : Nat) (v : Word) : (logRead off v s).params = s.params := rfl
@[simp] theorem logRead_lCmd (off : Nat) (v : Word) : (logRead off v s).lCmd = s.lCmd := rfl
@[simp] theorem logRead_lArg0 (off : Nat) (v : Word) : (logRead off v s).lArg0 = s.lArg0 := rfl
@[simp] theorem logRead_lArg1 (off : Nat) (v : Word) : (logRead off v s).lArg1 = s.lArg1 := rfl
@[simp] theorem logRead_lP (off : Nat) (v : Word) : (logRead off v s).lP = s.lP := rfl
@[simp] theorem logRead_actOp (off : Nat) (v : Word) : (logRead off v s).actOp = s.actOp := rfl
@[simp] theorem logRead_seq (off : Nat) (v : Word) : (logRead off v s).seq = s.seq := rfl
@[simp] theorem logRead_buIdx (off : Nat) (v : Word) : (logRead off v s).buIdx = s.buIdx := rfl
@[simp] theorem logRead_hsBlink (off : Nat) (v : Word) :
    (logRead off v s).hsBlink = s.hsBlink := rfl
@[simp] theorem logRead_vars (off : Nat) (v : Word) : (logRead off v s).vars = s.vars := rfl
@[simp] theorem logRead_dcOut (off : Nat) (v : Word) : (logRead off v s).dcOut = s.dcOut := rfl
@[simp] theorem logRead_spiCfg (off : Nat) (v : Word) : (logRead off v s).spiCfg = s.spiCfg := rfl
@[simp] theorem logRead_trace (off : Nat) (v : Word) : (logRead off v s).trace = s.trace := rfl
@[simp] theorem logRead_readLog (off : Nat) (v : Word) :
    (logRead off v s).readLog = s.readLog ++ [{ off := off, value := v }] := rfl
@[simp] theorem logRead_hostQueue (off : Nat) (v : Word) :
    (logRead off v s).hostQueue = s.hostQueue := rfl
@[simp] theorem logRead_turns (off : Nat) (v : Word) : (logRead off v s).turns = s.turns := rfl
@[simp] theorem logRead_frameAnswers (off : Nat) (v : Word) :
    (logRead off v s).frameAnswers = s.frameAnswers := rfl
@[simp] theorem logRead_levelAnswers (off : Nat) (v : Word) :
    (logRead off v s).levelAnswers = s.levelAnswers := rfl
@[simp] theorem logRead_frameDraws (off : Nat) (v : Word) :
    (logRead off v s).frameDraws = s.frameDraws := rfl
@[simp] theorem logRead_levelDraws (off : Nat) (v : Word) :
    (logRead off v s).levelDraws = s.levelDraws := rfl

end Sys2Proof.Machine
end

