-- ==== Sys2Proof/Laws/Ops.lean ====
section
/-! SUPPORT. What the shared operations can do: `submit`, the parameter buffer, `busy`. -/

namespace Sys2Proof.Machine

theorem busy_eq_false_iff (s : State) : busy s = false ↔ s.actOp = .none := by
  unfold busy
  cases s.actOp <;> simp

theorem busy_eq_true_iff (s : State) : busy s = true ↔ s.actOp ≠ .none := by
  unfold busy
  cases s.actOp <;> simp

/-- Everything `submit` can answer (40_framing.md R90 to R92): a refusal, two rejections, acceptance. -/
theorem submit_next {error : Option ErrCode} {a s t : State} (h : submit error a s = .next t) :
    s.cfg.Legal ∧
      ((busy s = true ∧ t = reject .busy s) ∨
        (busy s = false ∧ ∃ c, error = some c ∧ t = reject c s) ∨
        (busy s = false ∧ error = none ∧ t = a)) := by
  unfold submit at h
  split at h
  · refine ⟨‹_›, ?_⟩
    split at h
    · cases h; exact .inl ⟨‹_›, rfl⟩
    · rename_i hb
      rw [Bool.not_eq_true] at hb
      split at h
      · cases h; exact .inr (.inl ⟨hb, _, rfl, rfl⟩)
      · cases h; exact .inr (.inr ⟨hb, rfl, rfl⟩)
  · cases h

theorem submit_busy {error : Option ErrCode} {a s : State} (hl : s.cfg.Legal) (hb : busy s = true) :
    submit error a s = .next (reject .busy s) := by
  unfold submit; rw [if_pos hl, if_pos hb]

theorem submit_error {c : ErrCode} {a s : State} (hl : s.cfg.Legal) (hb : busy s = false) :
    submit (some c) a s = .next (reject c s) := by
  unfold submit; rw [if_pos hl, if_neg (by simp [hb])]

theorem submit_accept {a s : State} (hl : s.cfg.Legal) (hb : busy s = false) :
    submit none a s = .next a := by
  unfold submit; rw [if_pos hl, if_neg (by simp [hb])]

theorem submit_illegal {error : Option ErrCode} {a s : State} (hl : ¬ s.cfg.Legal) :
    submit error a s = .refused .illegalConfiguration := by
  unfold submit; rw [if_neg hl]

@[simp] theorem ParamRegs.get_set_same (p : ParamRegs) (v : Word) (k : Fin 8) :
    (p.set v k).get k = v := by
  fin_cases k <;> rfl

theorem ParamRegs.get_set_other (p : ParamRegs) (v : Word) {j k : Fin 8} (h : j ≠ k) :
    (p.set v k).get j = p.get j := by
  fin_cases j <;> fin_cases k <;> first | exact absurd rfl h | rfl

@[simp] theorem ParamRegs.length_bytes (p : ParamRegs) : p.bytes.length = 32 := rfl

/-- A count within the buffer takes its bytes and no free byte (10_state.md R28). -/
theorem paramList_within {n : Nat} (h : n ≤ 32) (w : Word) (p : ParamRegs) :
    paramList w p n = p.bytes.take n := by
  simp [paramList, Nat.sub_eq_zero_of_le h]

/-- The parameters are as many as asked for (30_encoding.md R76). -/
@[simp] theorem length_paramList (w : Word) (p : ParamRegs) (n : Nat) :
    (paramList w p n).length = n := by
  simp [paramList]; omega

theorem dcLevel_inj {cfg : Config.Params} (hl : cfg.Legal) {a b : DcState}
    (h : dcLevel cfg a = dcLevel cfg b) : a = b := by
  cases a <;> cases b
  · rfl
  · exact absurd h hl.2.1.1
  · exact absurd h.symm hl.2.1.1
  · rfl

@[simp] theorem Burst.bytes_once (l : List Byte) : (Burst.once l).bytes = l := by
  simp [Burst.bytes, Burst.once]

/-- A repeated frame has `count` times the bytes of its unit. -/
theorem Burst.length_bytes (b : Burst) : b.bytes.length = b.count * b.unit.length := by
  simp [Burst.bytes]

end Sys2Proof.Machine
end

