-- ==== Sys2Proof/Laws/Micro.lean ====
section
/-! SUPPORT. What a sequencer step can do (40_framing.md R94): the equations of `runStmts`, one
lemma that says everything a step over a list of statements answers, and what an event and an
assignment leave unchanged. -/

namespace Sys2Proof.Machine

/-- Assignments one after the other. -/
def applyAssigns (as : List Assign) (s : State) : State := as.foldl (fun t a => a.run t) s

@[simp] theorem applyAssigns_nil (s : State) : applyAssigns [] s = s := rfl

@[simp] theorem applyAssigns_cons (a : Assign) (as : List Assign) (s : State) :
    applyAssigns (a :: as) s = applyAssigns as (a.run s) := rfl

@[simp] theorem runStmts_nil (k n : Nat) (s : State) : runStmts k [] n s = complete s := by
  cases k <;> rfl

@[simp] theorem runStmts_skip (k n : Nat) (st : Stmt) (l : List Stmt) (s : State) :
    runStmts (k + 1) (st :: l) n s = runStmts k l (n + 1) s := rfl

@[simp] theorem runStmts_emit (e : EmitStmt) (l : List Stmt) (n : Nat) (s : State) :
    runStmts 0 (.emit e :: l) n s = { e.run s with seq := some (n + 1) } := rfl

@[simp] theorem runStmts_assign (a : Assign) (l : List Stmt) (n : Nat) (s : State) :
    runStmts 0 (.assign a :: l) n s = runStmts 0 l (n + 1) (a.run s) := rfl

@[simp] theorem runStmts_skipIf (t : Test) (k : Nat) (l : List Stmt) (n : Nat) (s : State) :
    runStmts 0 (.skipIf t k :: l) n s = runStmts (if t.holds s then k else 0) l (n + 1) s := rfl

@[simp] theorem runStmts_complete (l : List Stmt) (n : Nat) (s : State) :
    runStmts 0 (.complete :: l) n s = complete s := rfl

/-- Skipping a whole body goes on behind it. -/
theorem runStmts_skip_append (body l : List Stmt) (n : Nat) (s : State) :
    runStmts body.length (body ++ l) n s = runStmts 0 l (n + body.length) s := by
  induction body generalizing n with
  | nil => rfl
  | cons st body ih =>
    simp only [List.length_cons, List.cons_append, runStmts_skip, ih]
    congr 1; omega

/-- Assignments before an event take effect in its step. -/
theorem runStmts_assigns (as : List Assign) (l : List Stmt) (n : Nat) (s : State) :
    runStmts 0 (as.map .assign ++ l) n s = runStmts 0 l (n + as.length) (applyAssigns as s) := by
  induction as generalizing n s with
  | nil => rfl
  | cons a as ih =>
    simp only [List.map_cons, List.cons_append, runStmts_assign, ih, applyAssigns_cons,
      List.length_cons]
    congr 1; omega

/-- Everything a step over a list of statements can answer: some assignments, then one event, with
`seq` further on; or some assignments, then completion. -/
theorem runStmts_cases (l : List Stmt) (k n : Nat) (s : State) :
    (∃ as e m, runStmts k l n s = { EmitStmt.run e (applyAssigns as s) with seq := some m } ∧
      n < m ∧ m ≤ n + l.length) ∨
    ∃ as, runStmts k l n s = complete (applyAssigns as s) := by
  induction l generalizing k n s with
  | nil => exact .inr ⟨[], by simp⟩
  | cons st l ih =>
    have shift : ∀ {k' : Nat} {s' : State} {as₀ : List Assign}, s' = applyAssigns as₀ s →
        runStmts k (st :: l) n s = runStmts k' l (n + 1) s' →
        (∃ as e m, runStmts k (st :: l) n s =
            { EmitStmt.run e (applyAssigns as s) with seq := some m } ∧
          n < m ∧ m ≤ n + (st :: l).length) ∨
        ∃ as, runStmts k (st :: l) n s = complete (applyAssigns as s) := by
      intro k' s' as₀ hs' heq
      have comp : ∀ as, applyAssigns as s' = applyAssigns (as₀ ++ as) s := by
        intro as; simp [applyAssigns, hs', List.foldl_append]
      rcases ih k' (n + 1) s' with ⟨as, e, m, h, h1, h2⟩ | ⟨as, h⟩
      · exact .inl ⟨as₀ ++ as, e, m, by rw [heq, h, comp], by omega,
          by simp only [List.length_cons]; omega⟩
      · exact .inr ⟨as₀ ++ as, by rw [heq, h, comp]⟩
    cases k with
    | succ k => exact shift (as₀ := []) rfl (runStmts_skip k n st l s)
    | zero =>
      cases st with
      | emit e => exact .inl ⟨[], e, n + 1, by simp, by omega, by simp⟩
      | assign a => exact shift (as₀ := [a]) rfl (runStmts_assign a l n s)
      | skipIf t j => exact shift (as₀ := []) rfl (runStmts_skipIf t j l n s)
      | complete => exact .inr ⟨[], by simp⟩

/-- An event writes the trace, the bus, the read results, the blink count and the variables; the
rest stands. -/
theorem EmitStmt.run_frame (e : EmitStmt) (s : State) :
    e.run s = { s with
      trace := (e.run s).trace, spiCfg := (e.run s).spiCfg, dcOut := (e.run s).dcOut
      rdata := (e.run s).rdata, chipId := (e.run s).chipId, hsBlink := (e.run s).hsBlink
      vars := (e.run s).vars
      frameAnswers := (e.run s).frameAnswers, frameDraws := (e.run s).frameDraws
      levelAnswers := (e.run s).levelAnswers, levelDraws := (e.run s).levelDraws } := by
  cases e with
  | touchRead tx dst => cases dst <;> rfl
  | _ => rfl

/-- An assignment writes the sequencer's status fields; the rest stands. -/
theorem Assign.run_frame (a : Assign) (s : State) :
    a.run s = { s with
      buState := (a.run s).buState, buIdx := (a.run s).buIdx, buDone := (a.run s).buDone
      hsState := (a.run s).hsState, hsResult := (a.run s).hsResult
      touchMode := (a.run s).touchMode, hsFallback := (a.run s).hsFallback
      hsBlink := (a.run s).hsBlink } := by
  cases a <;> rfl

/-- The same of a list of assignments. -/
theorem applyAssigns_frame (as : List Assign) (s : State) :
    applyAssigns as s = { s with
      buState := (applyAssigns as s).buState, buIdx := (applyAssigns as s).buIdx
      buDone := (applyAssigns as s).buDone, hsState := (applyAssigns as s).hsState
      hsResult := (applyAssigns as s).hsResult, touchMode := (applyAssigns as s).touchMode
      hsFallback := (applyAssigns as s).hsFallback, hsBlink := (applyAssigns as s).hsBlink } := by
  induction as generalizing s with
  | nil => rfl
  | cons a as ih =>
    rw [applyAssigns_cons, ih (a.run s)]
    cases a <;> rfl

/-- Every event appends exactly one event to the trace. -/
theorem EmitStmt.run_trace (e : EmitStmt) (s : State) : ∃ ev, (e.run s).trace = s.trace ++ [ev] := by
  cases e with
  | touchRead tx dst => cases dst <;> exact ⟨_, rfl⟩
  | _ => exact ⟨_, rfl⟩

/-- A sequencer step of a running command is one over the statements from `seq` on. -/
theorem sequencerStep_running {s : State} {n : Nat} (hb : busy s = true) (hn : s.seq = some n) :
    sequencerStep s = runStmts 0 ((program s).drop n) n s := by
  unfold sequencerStep
  rw [hn]
  cases h : s.actOp <;> simp_all [busy]

@[simp] theorem sequencerStep_idle {s : State} (hb : busy s = false) : sequencerStep s = s := by
  rw [busy_eq_false_iff] at hb
  unfold sequencerStep
  rw [hb]

/-- The pseudocode depends on the command, the configuration, the latches and the touch mode only. -/
theorem program_congr {s t : State} (h₁ : t.actOp = s.actOp) (h₂ : t.cfg = s.cfg)
    (h₃ : t.lCmd = s.lCmd) (h₄ : t.lArg0 = s.lArg0) (h₅ : t.lArg1 = s.lArg1) (h₆ : t.lP = s.lP)
    (h₇ : t.touchMode = s.touchMode) : program t = program s := by
  simp only [program, dcmdProgram, trdProgram, twrProgram, fillProgram, bringupProgram,
    handshakeProgram, latchedParams, pixelStream, pixelCount, h₁, h₂, h₃, h₄, h₅, h₆, h₇]

end Sys2Proof.Machine
end

