-- ==== Sys2Proof/Laws/PerInstr.lean ====
section
/-! SUPPORT. Facts about every command, one lemma per constructor: its word matches its row of
opcode_table.json, and no other row's bits. -/

namespace Sys2Proof.Laws.RowEncoding

/-- The `mask` and `match` columns of a command's row of opcode_table.json. -/
def row : Instr → Word × Word
  | .nop => (0xFFFFFFFF#32, 0x00000000#32)
  | .dcmd _ _ => (0xFF00FF00#32, 0x01000000#32)
  | .trd _ => (0xFFFFFF00#32, 0x02000000#32)
  | .twr _ _ => (0xFFFF0000#32, 0x03000000#32)
  | .fill _ => (0xFFFF0000#32, 0x04000000#32)
  | .bringup => (0xFFFFFFFF#32, 0x05000000#32)
  | .handshake => (0xFFFFFFFF#32, 0x06000000#32)

/-- The command's word, masked as its row says, is the row's match. -/
def Statement (i : Instr) : Prop := encode i &&& (row i).1 = (row i).2

theorem nop : Statement .nop := by
  simp [Statement, encode, row, Instr.opcode, Instr.payload, place]

theorem dcmd (dop nparam : Byte) : Statement (.dcmd dop nparam) := by
  simp only [Statement, encode, row, Instr.opcode, Instr.payload, place]
  apply BitVec.eq_of_getLsbD_eq
  intro j hj
  interval_cases j <;> simp

theorem trd (taddr : Byte) : Statement (.trd taddr) := by
  simp only [Statement, encode, row, Instr.opcode, Instr.payload, place]
  apply BitVec.eq_of_getLsbD_eq
  intro j hj
  interval_cases j <;> simp

theorem twr (taddr tval : Byte) : Statement (.twr taddr tval) := by
  simp only [Statement, encode, row, Instr.opcode, Instr.payload, place]
  apply BitVec.eq_of_getLsbD_eq
  intro j hj
  interval_cases j <;> simp

theorem fill (color : Half) : Statement (.fill color) := by
  simp only [Statement, encode, row, Instr.opcode, Instr.payload, place]
  apply BitVec.eq_of_getLsbD_eq
  intro j hj
  interval_cases j <;> simp

theorem bringup : Statement .bringup := by
  simp [Statement, encode, row, Instr.opcode, Instr.payload, place]

theorem handshake : Statement .handshake := by
  simp [Statement, encode, row, Instr.opcode, Instr.payload, place]

end Sys2Proof.Laws.RowEncoding
end

