-- ==== Sys2Proof/Laws/Step.lean ====
section
/-! SUPPORT. What a command, a host access and a step of the machine can do: one inversion lemma
each, from which the invariants and frames follow. -/

namespace Sys2Proof.Machine

/-- The state an accepted command leaves at the step of its write (40_framing.md R92). -/
def acceptResult (i : Instr) (s : State) : State :=
  match i with
  | .nop => { acceptWord (encode .nop) s with done := true }
  | .dcmd dop nparam => startCommand .dcmd (acceptWord (encode (.dcmd dop nparam)) s)
  | .trd taddr => startCommand .trd (acceptWord (encode (.trd taddr)) s)
  | .twr taddr tval => startCommand .twr (acceptWord (encode (.twr taddr tval)) s)
  | .fill color => startCommand .fill (acceptWord (encode (.fill color)) s)
  | .bringup =>
    { startCommand .bringup (acceptWord (encode .bringup) s) with
      buState := .reset, buDone := false, buIdx := 0 }
  | .handshake =>
    { startCommand .handshake (acceptWord (encode .handshake) s) with
      hsResult := .none, hsFallback := false, hsState := .cfgPref }

/-- The operand check of a command (40_framing.md R90). -/
def operandError (i : Instr) (s : State) : Option ErrCode :=
  match i with
  | .dcmd _ nparam => paramError s.cfg nparam
  | .trd taddr => addrError taddr
  | .twr taddr _ => addrError taddr
  | .fill _ => windowError s
  | _ => none

/-- Every meaning is `submit` of its operand check and its accepted state. -/
theorem exec_eq_submit (i : Instr) (s : State) :
    exec i s = submit (operandError i s) (acceptResult i s) s := by
  cases i <;> rfl

theorem operandError_ne_none {i : Instr} {s : State} {c : ErrCode} (h : operandError i s = some c) :
    c ≠ .none := by
  rintro rfl
  cases i <;> simp only [operandError, paramError, addrError, windowError] at h <;>
    first
      | cases h
      | (split at h <;> cases h)

/-- Everything a command can answer: rejected with a code, or accepted. -/
theorem exec_next {i : Instr} {s t : State} (h : exec i s = .next t) :
    s.cfg.Legal ∧
      ((∃ c, c ≠ ErrCode.none ∧ t = reject c s) ∨
        (busy s = false ∧ operandError i s = none ∧ t = acceptResult i s)) := by
  rw [exec_eq_submit] at h
  obtain ⟨hl, ⟨-, rfl⟩ | ⟨-, c, hc, rfl⟩ | ⟨hb, he, rfl⟩⟩ := submit_next h
  · exact ⟨hl, .inl ⟨.busy, by decide, rfl⟩⟩
  · exact ⟨hl, .inl ⟨c, operandError_ne_none hc, rfl⟩⟩
  · exact ⟨hl, .inr ⟨hb, he, rfl⟩⟩

/-- Everything a word written to `CMD` can answer. -/
theorem submitWord_next {w : Word} {s t : State} (h : submitWord w s = .next t) :
    s.cfg.Legal ∧
      ((∃ c, c ≠ ErrCode.none ∧ t = reject c s) ∨
        ∃ i, decodeWord w = .ok i ∧ busy s = false ∧ operandError i s = none ∧
          t = acceptResult i s) := by
  unfold submitWord at h
  split at h
  · obtain ⟨hl, hc | ⟨hb, he, ht⟩⟩ := exec_next h
    · exact ⟨hl, .inl hc⟩
    · exact ⟨hl, .inr ⟨_, ‹_›, hb, he, ht⟩⟩
  · obtain ⟨hl, ⟨-, rfl⟩ | ⟨-, c, hc, rfl⟩ | ⟨-, he, -⟩⟩ := submit_next h
    · exact ⟨hl, .inl ⟨.busy, by decide, rfl⟩⟩
    · cases hc; exact ⟨hl, .inl ⟨.illegal, by decide, rfl⟩⟩
    · cases he

/-- Everything a host read can answer: the read is recorded, and nothing else changes. -/
theorem readAccess_next {a : Except Refusal HostReg} {off : Nat} {s t : State}
    (h : readAccess a off s = .next t) : ∃ r, a = .ok r ∧ t = logRead off (readReg r s) s := by
  cases a with
  | ok r => cases h; exact ⟨r, rfl, rfl⟩
  | error _ => cases h

/-- Everything a host write can answer: a command word is submitted, `STATUS` is cleared, an operand
register is stored, or nothing changes. -/
theorem writeAccess_next {a : Except Refusal HostReg} {v : Word} {s t : State}
    (h : writeAccess a v s = .next t) :
    (a = .ok .cmd ∧ submitWord v s = .next t) ∨ t = clearStatus v s ∨
      (∃ b c p, t = { s with arg0 := b, arg1 := c, params := p }) ∨ t = s := by
  cases a with
  | error _ => cases h
  | ok r =>
    cases r with
    | cmd => exact .inl ⟨rfl, h⟩
    | status => cases h; exact .inr (.inl rfl)
    | arg0 => cases h; exact .inr (.inr (.inl ⟨v, s.arg1, s.params, rfl⟩))
    | arg1 => cases h; exact .inr (.inr (.inl ⟨s.arg0, v, s.params, rfl⟩))
    | param k => cases h; exact .inr (.inr (.inl ⟨s.arg0, s.arg1, _, rfl⟩))
    | rdata => cases h; exact .inr (.inr (.inr rfl))
    | chipId => cases h; exact .inr (.inr (.inr rfl))
    | reserved => cases h; exact .inr (.inr (.inr rfl))

/-- Everything a host operation can answer: a command word is submitted, `STATUS` is cleared, an
operand register is stored, nothing changes, or a read is recorded. -/
theorem hostOp_next {op : HostOp} {s t : State} (h : hostOp op s = .next t) :
    (∃ w, submitWord w s = .next t) ∨ (∃ v, t = clearStatus v s) ∨
      (∃ a b p, t = { s with arg0 := a, arg1 := b, params := p }) ∨
      ∃ r q, t = { s with readLog := r, hostQueue := q } := by
  have read : ∀ {a off}, readAccess a off s = .next t →
      ∃ r q, t = { s with readLog := r, hostQueue := q } := by
    intro a off h
    obtain ⟨r, -, rfl⟩ := readAccess_next h
    exact ⟨_, s.hostQueue, rfl⟩
  have write : ∀ {a v}, writeAccess a v s = .next t →
      (∃ w, submitWord w s = .next t) ∨ (∃ v, t = clearStatus v s) ∨
        (∃ a b p, t = { s with arg0 := a, arg1 := b, params := p }) ∨
        ∃ r q, t = { s with readLog := r, hostQueue := q } := by
    intro a v h
    obtain ⟨-, h⟩ | h | h | h := writeAccess_next h
    · exact .inl ⟨v, h⟩
    · exact .inr (.inl ⟨v, h⟩)
    · exact .inr (.inr (.inl h))
    · exact .inr (.inr (.inr ⟨s.readLog, s.hostQueue, h⟩))
  cases op with
  | read off width => exact .inr (.inr (.inr (read h)))
  | readAt addr width => exact .inr (.inr (.inr (read h)))
  | write off width v => exact write h
  | writeAt addr width v => exact write h
  | poll =>
    simp only [hostOp] at h
    split at h <;> cases h
    · exact .inr (.inr (.inr ⟨_, _, rfl⟩))
    · exact .inr (.inr (.inr ⟨_, s.hostQueue, rfl⟩))

/-- An address at an offset from `FRAMER_BASE` reaches what the offset reaches (20_memory.md R59). -/
@[simp] theorem hostAccessAt_add (base off width : Nat) :
    hostAccessAt base (base + off) width = hostAccess off width := by
  simp [hostAccessAt]

/-- Everything the host's move can answer: nothing, or its next operation on the state whose queue
is without it. -/
theorem hostStep_next {s t : State} (h : hostStep s = .next t) :
    t = s ∨ ∃ op rest, s.hostQueue = op :: rest ∧ hostOp op { s with hostQueue := rest } = .next t := by
  unfold hostStep at h
  split at h
  · cases h; exact .inl rfl
  · exact .inr ⟨_, _, ‹_›, h⟩

/-- Everything a step of the machine can answer (00_scope.md R11). -/
theorem step_next {s t : State} (h : step s = .next t) :
    s.cfg.Legal ∧
      ((nextTurn s = .host ∧ hostStep (takeTurn s) = .next t) ∨
        (nextTurn s = .sequencer ∧ t = sequencerStep (takeTurn s)) ∨
        (nextTurn s = .reset ∧ t = assertReset (takeTurn s))) := by
  unfold step machineStep at h
  split at h
  · refine ⟨‹_›, ?_⟩
    split at h
    · exact .inl ⟨‹_›, h⟩
    · cases h; exact .inr (.inl ⟨‹_›, rfl⟩)
    · cases h; exact .inr (.inr ⟨‹_›, rfl⟩)
  · cases h

/-- Everything a sequencer step can answer: nothing while idle; some assignments and one event; some
assignments and completion. -/
theorem sequencerStep_cases (s : State) :
    (busy s = false ∧ sequencerStep s = s) ∨
    (busy s = true ∧
      ((∃ as e n m, s.seq = some n ∧ n < m ∧
          sequencerStep s = { EmitStmt.run e (applyAssigns as s) with seq := some m }) ∨
        ∃ as, sequencerStep s = complete (applyAssigns as s))) := by
  cases hb : busy s with
  | false => exact .inl ⟨rfl, sequencerStep_idle hb⟩
  | true =>
    refine .inr ⟨rfl, ?_⟩
    cases hn : s.seq with
    | none =>
      refine .inr ⟨[], ?_⟩
      unfold sequencerStep
      rw [hn]
      cases h : s.actOp <;> simp_all [busy]
    | some n =>
      rw [sequencerStep_running hb hn]
      rcases runStmts_cases ((program s).drop n) 0 n s with ⟨as, e, m, h, h1, -⟩ | ⟨as, h⟩
      · exact .inl ⟨as, e, n, m, rfl, h1, h⟩
      · exact .inr ⟨as, h⟩

end Sys2Proof.Machine
end

