-- ==== Sys2Proof/Tests/Slice0.lean ====
section
/-! SUPPORT. Tests of one step each, with expected values from 95_test_vectors.md and the rules, and
for every statement with hypotheses a state that meets them (`witness_<Name>`). -/

namespace Sys2Proof.Tests

open Sys2Proof.Machine Sys2Proof.Safety

/-! ## Small states -/

/-- The configuration of 95_test_vectors.md, with values for the OPEN parameters and a table. -/
def cfg : Config.Params :=
  { Config.defaults with
    dispDiv := 7#16, touchDiv := 9#16, tDcxUs := 3, framerBase := 0x4000
    initTable := [{ op := 0xC0#8, params := [0x23#8] }] }

/-- Idle, from reset. -/
def idle : State := { State.reset with cfg := cfg }

/-- The command `op` with the word `w` accepted, at statement `n` of its pseudocode. -/
def running (op : ActOp) (w : Word) (n : Nat) : State :=
  { idle with actOp := op, seq := some n, cmd := w, lCmd := w }

/-- A bring-up at statement `n`, `BU_STATE` being `b`. -/
def bringingUp (n : Nat) (b : BuState) : State :=
  { running .bringup 0x05000000#32 n with buState := b }

/-- A handshake at statement `n`, `HS_STATE` being `h`. -/
def shaking (n : Nat) (h : HsState) : State :=
  { running .handshake 0x06000000#32 n with hsState := h }

/-- Whether an answer is a next state of which `p` holds. -/
def nextWith (p : State → Bool) : Result → Bool
  | .next t => p t
  | .fault _ => false
  | .refused _ => false

/-- The reason of a refusal. -/
def refusal : Result → Option Refusal
  | .next _ => none
  | .fault _ => none
  | .refused r => some r

theorem exists_of_nextWith {p : State → Bool} {r : Result} (h : nextWith p r = true) :
    ∃ t, r = .next t ∧ p t = true := by
  cases r with
  | next t => exact ⟨t, rfl, h⟩
  | fault _ => cases h
  | refused _ => cases h

/-! ## Well-formedness: each check refuses an ill-formed term -/

theorem test_wellFormed_dcmd : (Instr.dcmd 0x36#8 33#8).wellFormed cfg = false ∧
    (Instr.dcmd 0x36#8 32#8).wellFormed cfg = true ∧
    (Instr.dcmd 0x36#8 17#8).wellFormed { cfg with pMax := 16 } = false := by decide

theorem test_wellFormed_trd : (Instr.trd 0x80#8).wellFormed cfg = false ∧
    (Instr.trd 0x7F#8).wellFormed cfg = true := by decide

theorem test_wellFormed_twr : (Instr.twr 0x80#8 0x02#8).wellFormed cfg = false ∧
    (Instr.twr 0x7F#8 0xFF#8).wellFormed cfg = true := by decide

/-! ## Decoding: words written out from 30_encoding.md R71 to R77 -/

theorem test_decode_nop : decodeWord 0x00000000#32 = .ok .nop := by rfl
theorem test_decode_dcmd : decodeWord 0x01B10005#32 = .ok (.dcmd 0xB1#8 0x05#8) := by rfl
theorem test_decode_trd : decodeWord 0x02000080#32 = .ok (.trd 0x80#8) := by rfl
theorem test_decode_twr : decodeWord 0x030010FF#32 = .ok (.twr 0x10#8 0xFF#8) := by rfl
theorem test_decode_fill : decodeWord 0x0400ABCD#32 = .ok (.fill 0xABCD#16) := by rfl
theorem test_decode_bringup : decodeWord 0x05000000#32 = .ok .bringup := by rfl
theorem test_decode_handshake : decodeWord 0x06000000#32 = .ok .handshake := by rfl

/-- ER-1, ER-2, NP-2, DC-7, TR-4, TW-5, FL-7, BU-5, HS-8: reserved opcodes and reserved bits. -/
theorem test_decode_reserved :
    decodeWord 0x07000000#32 = .error .reservedOpcode ∧
    decodeWord 0xFF000000#32 = .error .reservedOpcode ∧
    decodeWord 0x00000001#32 = .error .reservedBits ∧
    decodeWord 0x01360100#32 = .error .reservedBits ∧
    decodeWord 0x02000100#32 = .error .reservedBits ∧
    decodeWord 0x03010302#32 = .error .reservedBits ∧
    decodeWord 0x0401F800#32 = .error .reservedBits ∧
    decodeWord 0x05000001#32 = .error .reservedBits ∧
    decodeWord 0x06000100#32 = .error .reservedBits := by
  refine ⟨?_, ?_, ?_, ?_, ?_, ?_, ?_, ?_, ?_⟩ <;> rfl

theorem test_decodeTableWord : decodeTableWord 32 0x03000302 = some (.twr 0x03#8 0x02#8) ∧
    decodeTableWord 32 0x07000000 = none := by decide

/-! ## One step of each command (95_test_vectors.md) -/

/-- NP-3: `CMD` and `DONE` after a `NOP`. -/
theorem test_nop : nextWith (fun t => t.cmd == 0#32 && t.done && !busy t)
    (exec .nop { idle with cmd := 0x02000005#32 }) = true := by decide

/-- DC-3: the parameter frame takes its bytes from the low byte of `PARAM0` on. -/
theorem test_dcmd_params :
    sentTrace (sequencerStep { running .dcmd 0x01B10005#32 5 with
      lP := { ParamRegs.zero with p0 := 0x44332211#32, p1 := 0x55#32 } }) =
      [.xfer [0x11#8, 0x22#8, 0x33#8, 0x44#8, 0x55#8]] := by decide

/-- DC-8: reserved bits are checked before the parameter count. -/
theorem test_dcmd_priority : nextWith (fun t => statusWord t == 0x14#32)
    (submitWord 0x0136FF21#32 idle) = true := by decide

/-- TR-6: the read flag is set and `RDATA` takes the second byte of the answer. -/
theorem test_trd_read :
    let t := sequencerStep { running .trd 0x02000040#32 1 with frameAnswers := [[0xAA#8, 0x55#8]] }
    sentTrace t = [.xfer [0xC0#8, 0x00#8]] ∧ readReg .rdata t = 0x55#32 := by decide

/-- TR-5: after a fallback a touch read uses the alternate mode. -/
theorem test_trd_mode :
    sentTrace (sequencerStep { running .trd 0x02000003#32 0 with touchMode := .alt }) =
      [.spiCfg { mode := 1#2, div := 9#16, cs := 1#1 }] := by decide

/-- TW-2: a value with bit 7 set is sent unchanged. -/
theorem test_twr_frame : sentTrace (sequencerStep (running .twr 0x030010FF#32 1)) =
    [.xfer [0x10#8, 0xFF#8]] := by decide

/-- TW-4: the host may not supply the read flag. -/
theorem test_twr_addr : nextWith (fun t => statusWord t == 0x34#32)
    (submitWord 0x03008002#32 idle) = true := by decide

/-- FL-2: the stream of a 2 by 3 window. -/
theorem test_fill_stream :
    sentTrace (sequencerStep { running .fill 0x0400ABCD#32 15 with
      lArg0 := 0x00010002#32, lArg1 := 0x00000002#32 }) =
      [.xfer (List.replicate 6 [0xAB#8, 0xCD#8]).flatten] := by decide

/-- FL-5: the largest window has 2^32 pixels. -/
theorem test_fill_largest :
    (pixelCount { idle with lArg0 := 0x0000FFFF#32, lArg1 := 0x0000FFFF#32 }).toNat = 2 ^ 32 := by
  decide

/-- BU-1, step 6: with an empty table `CONFIG` is overwritten in the step of the sleep-exit frame. -/
theorem test_bringup_empty_table :
    let t := sequencerStep { bringingUp 6 .sleepInClear with cfg := { cfg with initTable := [] } }
    t.buState = .sleepExit ∧ sentTrace t = [.dc 0#1] := by decide

/-- BU-1, step 14: completion enters `DONE`. -/
theorem test_bringup_done :
    statusWord (sequencerStep { bringingUp 23 .settleDispon with
      cfg := { cfg with initTable := [{ op := 0xB1#8, params := [] }] } }) = 0x00081002#32 := by decide

/-- HS-1, step 3: the identity is stored with the second frame. -/
theorem test_handshake_id :
    let t := sequencerStep { shaking 4 .readId1 with
      vars := { hi := 0x08#8, id := 0#16, lvl := 0#1 }, frameAnswers := [[0xEE#8, 0x11#8]] }
    t.chipId = 0x0811#16 ∧ t.rdata = 0x11#8 ∧ sentTrace t = [.xfer [0x81#8, 0x00#8]] := by decide

/-- HS-2, step 4: the mismatch is tested in the step of the fallback's `SpiCfg`. -/
theorem test_handshake_fallback :
    let t := sequencerStep { shaking 5 .readId1 with vars := { hi := 0xFF#8, id := 0xFFFF#16, lvl := 0#1 } }
    statusWord t = 0x00300C01#32 ∧ sentTrace t = [.spiCfg { mode := 1#2, div := 9#16, cs := 1#1 }] := by
  decide

/-! ## The host's accesses -/

/-- ER-8: only `DONE`, `ERR` and `ERRCODE` can be cleared. -/
theorem test_status_clear :
    nextWith (fun t => statusWord t == 0x00A00100#32)
      (hostOp (.write 0x04 4 0xFFFFFFFF#32)
        { idle with hsState := .pass, hsResult := .pass, done := true }) = true := by decide

/-- 20_memory.md R55: the refusals, by name. -/
theorem test_host_refusals :
    refusal (hostOp (.write 0x00 2 0#32) idle) = some .hostAccessWidth ∧
    refusal (hostOp (.read 0x3E 4) idle) = some .hostAccessMisaligned ∧
    refusal (hostOp (.read 0x40 4) idle) = some .hostAccessOutside := by decide

/-- 20_memory.md R59: the window stands at `FRAMER_BASE`. -/
theorem test_host_address :
    nextWith (fun t => t.arg0 == 7#32) (hostOp (.writeAt 0x4008 4 7#32) idle) = true ∧
    refusal (hostOp (.readAt 0x3FFC 4) idle) = some .hostAccessOutside ∧
    refusal (hostOp (.readAt 0x4040 4) idle) = some .hostAccessOutside := by decide

/-- 00_scope.md R7: `P_MAX` and `READ_FLAG` are the configuration's. -/
theorem test_parameters :
    nextWith (fun t => t.errCode == .param)
      (submitWord 0x01360011#32 { idle with cfg := { cfg with pMax := 16 } }) = true ∧
    nextWith (fun t => t.cmd == 0x01360021#32)
      (submitWord 0x01360021#32 { idle with cfg := { cfg with pMax := 40 } }) = true ∧
    sentTrace (sequencerStep
      { running .trd 0x02000003#32 1 with cfg := { cfg with readFlag := 0x40#8 } }) =
      [.xfer [0x43#8, 0x00#8]] := by decide

/-- 30_encoding.md R87, P-3: the expansion of a `dcmdp`. -/
theorem test_dcmdp : (Pseudo.dcmdp 0x2A [0x00#8, 0x00#8, 0x00#8, 0xEF#8]).expand 32 =
    some [.write 0x20 4 0xEF000000#32, .write 0x00 4 0x012A0004#32] := by decide

/-- RS-2: reset in the middle of a bring-up. -/
theorem test_reset_turn :
    nextWith (fun t => statusWord t == 0#32 && t.trace == [.delay 5000] && !busy t)
      (step { bringingUp 7 .sleepInClear with turns := [.reset], trace := [.delay 5000] }) = true := by
  decide

/-- A placed word is the first thing the machine runs after reset. -/
theorem test_place_from_reset :
    nextWith (fun t => t.cmd == 0x05000000#32 && busy t)
      (step (State.reset.withFetchWord 32 0x05000000)) = true := by decide

/-! ## Witnesses: a state that meets the hypotheses of each statement -/

/-- A state in which the block runs a `TRD` at its first statement. -/
def reading : State := running .trd 0x0200007F#32 0

theorem witness_DecodedWordEncodesBack : decodeWord 0x01360001#32 = .ok (.dcmd 0x36#8 0x01#8) := by rfl

theorem witness_AssemblerLinesEncode : 256 ≤ (256 : Nat) ∧ 65536 ≤ (65536 : Nat) := by decide

theorem witness_CommandWordChecks_busy : reading.cfg.Legal ∧ busy reading = true := by decide

theorem witness_CommandWordChecks_errors :
    idle.cfg.Legal ∧ busy idle = false ∧
    acceptanceError 0x07000000#32 idle = some .illegal ∧
    acceptanceError 0x06000001#32 idle = some .illegal ∧
    acceptanceError 0x01360021#32 idle = some .param ∧
    acceptanceError 0x02000080#32 idle = some .addr ∧
    acceptanceError 0x03008000#32 idle = some .addr ∧
    acceptanceError 0x04000000#32 { idle with arg0 := 0x00050004#32 } = some .window := by decide

theorem witness_CommandWordChecks_accepted :
    idle.cfg.Legal ∧ busy idle = false ∧
    acceptanceError 0x00000000#32 idle = none ∧ acceptanceError 0x01360020#32 idle = none ∧
    acceptanceError 0x0200007F#32 idle = none ∧ acceptanceError 0x03007FFF#32 idle = none ∧
    acceptanceError 0x0400FFFF#32 idle = none ∧ acceptanceError 0x05000000#32 idle = none ∧
    acceptanceError 0x06000000#32 idle = none := by decide

theorem witness_AcceptanceEffect :
    idle.cfg.Legal ∧ busy idle = false ∧ operandsOk .nop idle = true ∧
    operandsOk (.dcmd 0x36#8 32#8) idle = true ∧ operandsOk (.trd 0x7F#8) idle = true ∧
    operandsOk (.twr 0x7F#8 0xFF#8) idle = true ∧
    operandsOk (.fill 0xF800#16) { idle with arg0 := 0x00050005#32, arg1 := 0x0000013F#32 } = true ∧
    operandsOk .bringup idle = true ∧ operandsOk .handshake idle = true := by decide

theorem witness_NopCompletesAtAcceptance : idle.cfg.Legal ∧ busy idle = false := by decide

theorem witness_BusyRejectsEveryCommand : reading.cfg.Legal ∧ busy reading = true := by decide

theorem witness_ReadFlagAddressRejected :
    idle.cfg.Legal ∧ busy idle = false ∧ 0x80#8 ≤ 0x80#8 ∧ 0x80#8 ≤ 0xFF#8 := by decide

theorem witness_OversizedParameterCountRejected :
    idle.cfg.Legal ∧ busy idle = false ∧ idle.cfg.pMax < (33#8).toNat := by decide

theorem witness_InvertedWindowRejected_x :
    let s := { idle with arg0 := 0x00050004#32 }
    s.cfg.Legal ∧ busy s = false ∧ s.arg0.extractLsb' 16 16 > s.arg0.extractLsb' 0 16 := by decide

theorem witness_InvertedWindowRejected_y :
    let s := { idle with arg1 := 0x00010000#32 }
    s.cfg.Legal ∧ busy s = false ∧ s.arg1.extractLsb' 16 16 > s.arg1.extractLsb' 0 16 := by decide

theorem witness_IllegalConfigurationRefused :
    { cfg with touchIdBase := 0x7F#8 }.touchIdBase > 0x7E#8 ∧
    { cfg with tregSysCtrl1 := 0x80#8 }.tregSysCtrl1 ≥ 0x80#8 ∧
    { cfg with dcDataLevel := 0#1 }.dcCmdLevel = { cfg with dcDataLevel := 0#1 }.dcDataLevel ∧
    { cfg with touchCs := 0#1 }.dispCs = { cfg with touchCs := 0#1 }.touchCs ∧
    { cfg with modeAlt := 0#2 }.modePref = { cfg with modeAlt := 0#2 }.modeAlt ∧
    { cfg with tResetUs := 4999 }.tResetUs < 5000 ∧
    { cfg with tSlpoutUs := 99999 }.tSlpoutUs < 100000 ∧
    { cfg with tDisponUs := 19999 }.tDisponUs < 20000 ∧
    { cfg with tBlinkUs := 299999 }.tBlinkUs < 300000 := by decide

theorem witness_IllegalConfigurationRefused_registers :
    { cfg with tregSysCtrl2 := 0x80#8 }.tregSysCtrl2 ≥ 0x80#8 ∧
    { cfg with tregGpioAf := 0x80#8 }.tregGpioAf ≥ 0x80#8 ∧
    { cfg with tregGpioDir := 0x80#8 }.tregGpioDir ≥ 0x80#8 ∧
    { cfg with tregGpioSet := 0x80#8 }.tregGpioSet ≥ 0x80#8 ∧
    { cfg with tregGpioClr := 0x80#8 }.tregGpioClr ≥ 0x80#8 := by decide

theorem witness_IllegalConfigurationRefused_mask :
    (¬ ∃ k : Fin 8, { cfg with touchGpioMask := 0x06#8 }.touchGpioMask = 1#8 <<< k.val) ∧
    ¬ ∃ k : Fin 8, { cfg with touchGpioMask := 0x00#8 }.touchGpioMask = 1#8 <<< k.val := by decide

/-- The host's next access writes a `TRD` to `CMD`. -/
def writing : State := { idle with hostQueue := [.write 0x00 4 0x0200007F#32, .poll] }

theorem witness_StepRunsDecodedCommand :
    writing.cfg.Legal ∧ nextTurn writing = .host ∧
      writing.hostQueue = .write 0x00 4 0x0200007F#32 :: [.poll] ∧
      decodeWord 0x0200007F#32 = .ok (.trd 0x7F#8) :=
  ⟨by decide, by decide, by decide, rfl⟩

theorem witness_PlacedWordRunsNext :
    idle.cfg.Legal ∧ decodeTableWord 32 0x0400F800 = some (.fill 0xF800#16) := by decide

theorem witness_SequencerTurnSteps : reading.cfg.Legal ∧ nextTurn reading = .sequencer := by decide

theorem witness_UnscheduledRunIsSequencerRun :
    reading.cfg.Legal ∧ reading.turns = [] ∧ ∀ j, j < 3 → busy (runSequencer j reading) = true := by
  decide

theorem witness_ResetInputLeavesResetValues :
    let s := { bringingUp 7 .sleepInClear with turns := [.reset] }
    s.cfg.Legal ∧ nextTurn s = .reset := by decide

theorem witness_ResetReadsZeroEverywhere :
    hostReg 0x00 = some .cmd ∧ hostReg 0x3C = some (.param 7) := by decide

theorem witness_ReadOnlyOffsetsIgnoreWrites :
    [0x10, 0x14, 0x18, 0x1C].map hostReg =
      [some .rdata, some .chipId, some .reserved, some .reserved] := by decide

theorem witness_HostAccessContract :
    idle.cfg.Legal ∧ (4 = 4 ∧ 0x3C % 4 = 0 ∧ 0x3C ≤ 0x3C) ∧ ¬ (4 = 4 ∧ 0x40 % 4 = 0 ∧ 0x40 ≤ 0x3C) ∧
      ¬ (4 = 4 ∧ 0x3E % 4 = 0 ∧ 0x3E ≤ 0x3C) ∧ ¬ (2 = 4 ∧ 0x3C % 4 = 0 ∧ 0x3C ≤ 0x3C) := by decide

theorem witness_StepRunsHostAccess :
    writing.cfg.Legal ∧ nextTurn writing = .host ∧
      writing.hostQueue = .write 0x00 4 0x0200007F#32 :: [.poll] ∧
      idle.cfg.Legal ∧ nextTurn idle = .host ∧ idle.hostQueue = [] := by decide

theorem witness_WindowStandsAtFramerBase : 0x3FFC < idle.cfg.framerBase := by decide

/-- The three cases: over `P_MAX`, within the buffer, past the buffer where `P_MAX` allows it. -/
theorem witness_SetparamsFillsBuffer :
    idle.cfg.pMax < (List.replicate 33 0xA5#8).length ∧
    ¬ idle.cfg.pMax < (List.replicate 32 0xA5#8).length ∧ (List.replicate 32 0xA5#8).length ≤ 32 ∧
    ¬ { cfg with pMax := 40 }.pMax < (List.replicate 33 0xA5#8).length ∧
    ¬ (List.replicate 33 0xA5#8).length ≤ 32 := by decide

/-- A `TRD` at its frame, the answer in the state: a frame is emitted and `RDATA` changes. -/
theorem witness_FrameAnswerIsRecorded :
    let s := { running .trd 0x0200007F#32 1 with frameAnswers := [[0xAA#8, 0x55#8]] }
    (sequencerStep s).trace = s.trace ++
        [.xfer (touchReadFrame s.cfg 0x7F#8) { given := [0xAA#8, 0x55#8], frame := 0 }] ∧
      (sequencerStep s).rdata ≠ s.rdata := by decide

theorem witness_SequencerEmitsOrCompletes :
    busy reading = true ∧ busy (running .trd 0x0200007F#32 2) = true ∧ busy idle = false := by decide

theorem witness_PollRepeatsWhileBusy : busy reading = true ∧ busy idle = false := by decide

theorem witness_SequencerMovesForward : busy reading = true ∧ reading.seq = some 0 := by decide

theorem witness_SequencerMovesForward_completion :
    let s := running .trd 0x0200007F#32 2
    busy s = true ∧ s.seq = some 2 ∧ (sequencerStep s).seq = none := by decide

theorem witness_DcmdRunsToCompletion :
    idle.cfg.Legal ∧ busy idle = false ∧ (0#8).toNat ≤ idle.cfg.pMax ∧
      (32#8).toNat ≤ idle.cfg.pMax := by decide

theorem witness_TrdRunsToCompletion :
    idle.cfg.Legal ∧ busy idle = false ∧ 0x7F#8 < 0x80#8 := by decide

theorem witness_TwrRunsToCompletion :
    idle.cfg.Legal ∧ busy idle = false ∧ 0x7F#8 < 0x80#8 := by decide

theorem witness_FillRunsToCompletion :
    let s := { idle with arg0 := 0x00050005#32, arg1 := 0x0000FFFF#32 }
    s.cfg.Legal ∧ busy s = false ∧ s.arg0.extractLsb' 16 16 ≤ s.arg0.extractLsb' 0 16 ∧
      s.arg1.extractLsb' 16 16 ≤ s.arg1.extractLsb' 0 16 := by decide

theorem witness_PixelCountIsWindowArea :
    let s := { idle with lArg0 := 0x00050005#32, lArg1 := 0x0000FFFF#32 }
    startCoord s.lArg0 ≤ endCoord s.lArg0 ∧ startCoord s.lArg1 ≤ endCoord s.lArg1 := by decide

theorem witness_BringupRunsToCompletion : idle.cfg.Legal ∧ busy idle = false := by decide

theorem witness_BringupStatesFollowEvents : idle.cfg.Legal ∧ busy idle = false := by decide

theorem witness_HandshakeStatesFollowEvents : idle.cfg.Legal ∧ busy idle = false := by decide

/-- The answers of a match in the first mode with the line idle (HS-1). -/
def answering : State :=
  { idle with frameAnswers := [[0#8, 0x08#8], [0#8, 0x11#8], [0#8, 0#8], [0#8, 0#8]]
              levelAnswers := [1#1] }

theorem witness_HandshakeOutcome :
    answering.cfg.Legal ∧ busy answering = false ∧
      true = (comingId answering 0 == answering.cfg.chipIdExpected) ∧
      false = (comingId answering 2 == answering.cfg.chipIdExpected) ∧
      true = (nextLevel answering == answering.cfg.irqIdleLevel) := by decide

theorem witness_HandshakeOutcome_failures :
    let s := { answering with
      frameAnswers := [[0#8, 0xFF#8], [0#8, 0xFF#8], [0#8, 0x08#8], [0#8, 0x11#8]], levelAnswers := [0#1] }
    s.cfg.Legal ∧ busy s = false ∧ false = (comingId s 0 == s.cfg.chipIdExpected) ∧
      true = (comingId s 2 == s.cfg.chipIdExpected) ∧
      false = (nextLevel s == s.cfg.irqIdleLevel) := by decide

theorem witness_RunningCommandCompletes : Inv reading ∧ busy reading = true := by decide

theorem witness_TraceGrowsByAtMostOneEvent : ∃ t, step reading = .next t := by
  obtain ⟨t, h, -⟩ := exists_of_nextWith (p := fun _ => true) (r := step reading) (by decide)
  exact ⟨t, h⟩

theorem witness_BusStateChangesOnlyWithEvents : (∃ t, step reading = .next t) ∧ nextTurn reading ≠ .reset :=
  ⟨witness_TraceGrowsByAtMostOneEvent, by decide⟩

theorem witness_ResultsWrittenOnlyByTheirCommands :
    (∃ t, step reading = .next t ∧ t.actOp ≠ .handshake ∧ t.actOp ≠ .bringup) ∧
      nextTurn reading ≠ .reset ∧ reading.actOp ≠ .handshake ∧ reading.actOp ≠ .bringup := by
  obtain ⟨t, h, hp⟩ := exists_of_nextWith (p := fun t => t.actOp == .trd) (r := step reading) (by decide)
  have ht : t.actOp = .trd := by simpa using hp
  exact ⟨⟨t, h, by rw [ht]; decide, by rw [ht]; decide⟩, by decide, by decide, by decide⟩

theorem witness_ResultsWrittenOnlyByTheirCommands_rdata :
    let s := running .twr 0x03000302#32 1
    nextWith (fun _ => true) (step s) = true ∧ nextTurn s ≠ .reset ∧ s.actOp ≠ .handshake ∧
      s.actOp ≠ .trd := by decide

theorem witness_OneCommandAtATime : (∃ t, step reading = .next t) ∧ busy reading = true :=
  ⟨witness_TraceGrowsByAtMostOneEvent, by decide⟩

theorem witness_StepKeepsInv : Inv reading ∧ ∃ t, step reading = .next t :=
  ⟨by decide, witness_TraceGrowsByAtMostOneEvent⟩

theorem witness_StepKeepsBringupStatus :
    let s := bringingUp 6 .sleepInClear
    Inv s ∧ bringupOk s = true ∧ nextWith (fun _ => true) (step s) = true := by decide

theorem witness_StepKeepsHandshakeStatus :
    let s := shaking 5 .readId1
    Inv s ∧ handshakeOk s = true ∧ nextWith (fun _ => true) (step s) = true := by decide

theorem witness_StepKeepsBusConfiguration :
    let s := { shaking 5 .readId1 with spiCfg := some { mode := 0#2, div := 9#16, cs := 1#1 } }
    Inv s ∧ busOk s = true ∧ nextWith (fun _ => true) (step s) = true := by decide

end Sys2Proof.Tests
end

section
/-! Proofs of the statements of 00_scope.md: who moves at a step (R11), what a step can append to
the trace (R10), the oracle's answers (R12), and the configurations that have no meaning (R8). -/

namespace Sys2Proof.Machine

/-! ## What assignments and acceptance leave unchanged -/

@[simp] theorem applyAssigns_cfg (as : List Assign) (s : State) :
    (applyAssigns as s).cfg = s.cfg := by
  rw [applyAssigns_frame]

@[simp] theorem applyAssigns_turns (as : List Assign) (s : State) :
    (applyAssigns as s).turns = s.turns := by
  rw [applyAssigns_frame]

@[simp] theorem applyAssigns_trace (as : List Assign) (s : State) :
    (applyAssigns as s).trace = s.trace := by
  rw [applyAssigns_frame]

@[simp] theorem applyAssigns_rdata (as : List Assign) (s : State) :
    (applyAssigns as s).rdata = s.rdata := by
  rw [applyAssigns_frame]

@[simp] theorem nextRx_applyAssigns (as : List Assign) (s : State) :
    nextRx (applyAssigns as s) = nextRx s := by
  rw [applyAssigns_frame]; rfl

@[simp] theorem acceptResult_cfg (i : Instr) (s : State) : (acceptResult i s).cfg = s.cfg := by
  cases i <;> rfl

@[simp] theorem acceptResult_trace (i : Instr) (s : State) :
    (acceptResult i s).trace = s.trace := by
  cases i <;> rfl

/-! ## What an event leaves unchanged, and what it records -/

@[simp] theorem EmitStmt.run_cfg (e : EmitStmt) (s : State) : (e.run s).cfg = s.cfg := by
  rw [e.run_frame]

@[simp] theorem EmitStmt.run_turns (e : EmitStmt) (s : State) : (e.run s).turns = s.turns := by
  rw [e.run_frame]

theorem EmitStmt.run_touchRead_trace (tx : Burst) (dst : Bind) (s : State) :
    ((EmitStmt.touchRead tx dst).run s).trace = s.trace ++ [.xfer tx (nextRx s)] := by
  cases dst <;> rfl

theorem EmitStmt.run_touchRead_rdata (tx : Burst) (dst : Bind) (s : State) :
    ((EmitStmt.touchRead tx dst).run s).rdata = (nextRx s).byte 1 := by
  cases dst <;> rfl

/-- The answer recorded with a frame is the oracle's next one (00_scope.md R12). -/
theorem EmitStmt.eq_nextRx_of_run_trace {e : EmitStmt} {s : State} {tx : Burst} {rx : RxAnswer}
    (h : (e.run s).trace = s.trace ++ [.xfer tx rx]) : rx = nextRx s := by
  cases e with
  | touchRead tx' dst =>
    simp only [EmitStmt.run_touchRead_trace, List.append_cancel_left_eq, List.cons.injEq,
      Event.xfer.injEq] at h
    exact h.1.2.symm
  | xfer tx' | blinkXfer tx' =>
    simp only [EmitStmt.run, emitXfer_trace, List.append_cancel_left_eq, List.cons.injEq,
      Event.xfer.injEq] at h
    exact h.1.2.symm
  | _ => simp [EmitStmt.run] at h

/-- Only a touch read writes `RDATA` (40_framing.md R97). -/
theorem EmitStmt.eq_touchRead_of_run_rdata_ne {e : EmitStmt} {s : State}
    (h : (e.run s).rdata ≠ s.rdata) : ∃ tx dst, e = .touchRead tx dst := by
  cases e with
  | touchRead tx dst => exact ⟨tx, dst, rfl⟩
  | _ => exact absurd rfl h

/-! ## The bytes of an answer -/

@[simp] theorem Event.rx_xfer_length (tx : Burst) (rx : RxAnswer) :
    (Event.xfer tx rx).rx.length = tx.bytes.length := by
  simp [Event.rx]

theorem Event.rx_xfer_getElem? {tx : Burst} {i : Nat} (rx : RxAnswer) (hi : i < tx.bytes.length) :
    (Event.xfer tx rx).rx[i]? = some (rx.byte i) := by
  simp [Event.rx, hi]

/-! ## The touch reads of the pseudocode (30_encoding.md R82) -/

@[simp] theorem touchRead_notMem_displayFrame (tx : Burst) (dst : Bind) (cfg : Config.Params)
    (op : Byte) (params : List Byte) :
    .emit (.touchRead tx dst) ∉ displayFrame cfg op params := by
  cases params <;> simp [displayFrame]

@[simp] theorem touchRead_notMem_initFrames (tx : Burst) (dst : Bind) (cfg : Config.Params)
    (i : Nat) (table : List Config.InitEntry) :
    .emit (.touchRead tx dst) ∉ initFrames cfg i table := by
  induction table generalizing i with
  | nil => simp [initFrames]
  | cons entry rest ih => simp [initFrames, ih]

theorem touchRead_mem_readId {tx : Burst} {dst : Bind} {cfg : Config.Params}
    (h : .emit (.touchRead tx dst) ∈ readId cfg) : ∃ a, tx = touchReadFrame cfg a := by
  obtain ⟨rfl, -⟩ | ⟨rfl, -⟩ : (tx = touchReadFrame cfg cfg.touchIdBase ∧ dst = .hi) ∨
      (tx = touchReadFrame cfg (cfg.touchIdBase + 1#8) ∧ dst = .lo) := by
    simpa [readId, touchRead] using h
  · exact ⟨_, rfl⟩
  · exact ⟨_, rfl⟩

/-- In a handshake only the identity reads are touch reads (43_handshake.md R155). -/
theorem touchRead_mem_handshakeProgram {tx : Burst} {dst : Bind} {s : State}
    (h : .emit (.touchRead tx dst) ∈ handshakeProgram s) :
    .emit (.touchRead tx dst) ∈ readId s.cfg := by
  simpa [handshakeProgram, ifFails, fallback, failWith, resetAndClock, gpioAndBlink, blinkPair,
    cfgTouch, touchWrite] using h

theorem touchRead_mem_program {tx : Burst} {dst : Bind} {s : State}
    (h : .emit (.touchRead tx dst) ∈ program s) : ∃ a, tx = touchReadFrame s.cfg a := by
  cases hop : s.actOp with
  | none => simp [program, hop] at h
  | dcmd => simp [program, hop, dcmdProgram, cfgDisplay] at h
  | trd =>
    have htx : tx = touchReadFrame s.cfg (lowField s.lCmd) ∧ dst = .discard := by
      simpa [program, hop, trdProgram, cfgTouch, touchRead] using h
    exact ⟨_, htx.1⟩
  | twr => simp [program, hop, twrProgram, cfgTouch, touchWrite] at h
  | fill => simp [program, hop, fillProgram, cfgDisplay] at h
  | bringup => simp [program, hop, bringupProgram, cfgDisplay] at h
  | handshake =>
    exact touchRead_mem_readId (touchRead_mem_handshakeProgram (by simpa only [program, hop] using h))

theorem touchReadFrame_length (cfg : Config.Params) (a : Byte) :
    (touchReadFrame cfg a).bytes.length = 2 := by
  simp [touchReadFrame]

/-! ## What a sequencer step does -/

/-- The event of a step over a list of statements is that of one of them. -/
theorem runStmts_emits_member (l : List Stmt) (k n : Nat) (s : State) :
    (∃ as e m, .emit e ∈ l ∧
      runStmts k l n s = { EmitStmt.run e (applyAssigns as s) with seq := some m }) ∨
    ∃ as, runStmts k l n s = complete (applyAssigns as s) := by
  induction l generalizing k n s with
  | nil => exact .inr ⟨[], by simp⟩
  | cons st l ih =>
    have later : ∀ {k' : Nat} (as₀ : List Assign),
        runStmts k (st :: l) n s = runStmts k' l (n + 1) (applyAssigns as₀ s) →
        (∃ as e m, .emit e ∈ st :: l ∧
          runStmts k (st :: l) n s = { EmitStmt.run e (applyAssigns as s) with seq := some m }) ∨
        ∃ as, runStmts k (st :: l) n s = complete (applyAssigns as s) := by
      intro k' as₀ heq
      have comp : ∀ as, applyAssigns as (applyAssigns as₀ s) = applyAssigns (as₀ ++ as) s :=
        fun as => (List.foldl_append ..).symm
      rw [heq]
      refine (ih k' (n + 1) (applyAssigns as₀ s)).imp ?_ ?_
      · rintro ⟨as, e, m, hmem, h⟩
        exact ⟨as₀ ++ as, e, m, List.mem_cons_of_mem _ hmem, comp as ▸ h⟩
      · rintro ⟨as, h⟩
        exact ⟨as₀ ++ as, comp as ▸ h⟩
    cases k with
    | succ k => exact later [] (runStmts_skip k n st l s)
    | zero =>
      cases st with
      | emit e => exact .inl ⟨[], e, n + 1, List.mem_cons_self, rfl⟩
      | assign a => exact later [a] (runStmts_assign a l n s)
      | skipIf t j => exact later [] (runStmts_skipIf t j l n s)
      | complete => exact .inr ⟨[], rfl⟩

/-- A sequencer step runs an event of the running pseudocode after some assignments, or appends no
event and leaves `RDATA`. -/
theorem sequencerStep_emits_member (s : State) :
    (∃ as e m, .emit e ∈ program s ∧
      sequencerStep s = { EmitStmt.run e (applyAssigns as s) with seq := some m }) ∨
    ((sequencerStep s).trace = s.trace ∧ (sequencerStep s).rdata = s.rdata) := by
  have completed : ∀ {as}, sequencerStep s = complete (applyAssigns as s) →
      (sequencerStep s).trace = s.trace ∧ (sequencerStep s).rdata = s.rdata := by
    rintro as h; simp [h]
  rcases sequencerStep_cases s with ⟨-, h⟩ | ⟨hb, ⟨-, -, n, -, hn, -, -⟩ | ⟨as, h⟩⟩
  · exact .inr (by simp [h])
  · rw [sequencerStep_running hb hn] at completed ⊢
    refine (runStmts_emits_member ((program s).drop n) 0 n s).imp ?_ fun ⟨as, h⟩ => completed h
    rintro ⟨as, e, m, hmem, h⟩
    exact ⟨as, e, m, List.mem_of_mem_drop hmem, h⟩
  · exact .inr (completed h)

@[simp] theorem sequencerStep_cfg (s : State) : (sequencerStep s).cfg = s.cfg := by
  rcases sequencerStep_cases s with ⟨-, h⟩ | ⟨-, ⟨as, e, n, m, -, -, h⟩ | ⟨as, h⟩⟩ <;> simp [h]

@[simp] theorem sequencerStep_turns (s : State) : (sequencerStep s).turns = s.turns := by
  rcases sequencerStep_cases s with ⟨-, h⟩ | ⟨-, ⟨as, e, n, m, -, -, h⟩ | ⟨as, h⟩⟩ <;> simp [h]

theorem sequencerStep_trace (s : State) :
    (sequencerStep s).trace = s.trace ∨ ∃ e, (sequencerStep s).trace = s.trace ++ [e] := by
  rcases sequencerStep_emits_member s with ⟨as, e, m, -, h⟩ | ⟨h, -⟩
  · obtain ⟨ev, hev⟩ := e.run_trace (applyAssigns as s)
    exact .inr ⟨ev, by simpa [h] using hev⟩
  · exact .inl h

/-- A frame that a sequencer step appends carries the oracle's next answer. -/
theorem eq_nextRx_of_sequencerStep_trace {s : State} {tx : Burst} {rx : RxAnswer}
    (h : (sequencerStep s).trace = s.trace ++ [.xfer tx rx]) : rx = nextRx s := by
  rcases sequencerStep_emits_member s with ⟨as, e, m, -, hstep⟩ | ⟨htrace, -⟩
  · rw [← nextRx_applyAssigns as s]
    exact e.eq_nextRx_of_run_trace (tx := tx) (by simpa [hstep] using h)
  · simp [htrace] at h

/-- A sequencer step that writes `RDATA` appends a frame of two bytes and stores byte 1 of its
answer (40_framing.md R97). -/
theorem sequencerStep_of_rdata_ne {s : State} (h : (sequencerStep s).rdata ≠ s.rdata) :
    ∃ tx, tx.bytes.length = 2 ∧ (sequencerStep s).trace = s.trace ++ [.xfer tx (nextRx s)] ∧
      (sequencerStep s).rdata = (nextRx s).byte 1 := by
  rcases sequencerStep_emits_member s with ⟨as, e, m, hmem, hstep⟩ | ⟨-, hrdata⟩
  · obtain ⟨tx, dst, rfl⟩ : ∃ tx dst, e = .touchRead tx dst :=
      e.eq_touchRead_of_run_rdata_ne (s := applyAssigns as s) (by simpa [hstep] using h)
    obtain ⟨a, rfl⟩ := touchRead_mem_program hmem
    exact ⟨_, touchReadFrame_length s.cfg a, by simp [hstep, EmitStmt.run_touchRead_trace],
      by simp [hstep, EmitStmt.run_touchRead_rdata]⟩
  · exact absurd hrdata h

/-! ## What the host's move leaves unchanged -/

theorem submitWord_keeps_cfg_trace {w : Word} {s t : State} (h : submitWord w s = .next t) :
    t.cfg = s.cfg ∧ t.trace = s.trace := by
  obtain ⟨-, ⟨c, -, rfl⟩ | ⟨i, -, -, -, rfl⟩⟩ := submitWord_next h <;> simp

theorem hostOp_keeps_cfg_trace {op : HostOp} {s t : State} (h : hostOp op s = .next t) :
    t.cfg = s.cfg ∧ t.trace = s.trace := by
  obtain ⟨w, hw⟩ | ⟨v, rfl⟩ | ⟨a, b, p, rfl⟩ | ⟨r, q, rfl⟩ := hostOp_next h
  · exact submitWord_keeps_cfg_trace hw
  all_goals exact ⟨rfl, rfl⟩

theorem hostStep_keeps_cfg_trace {s t : State} (h : hostStep s = .next t) :
    t.cfg = s.cfg ∧ t.trace = s.trace := by
  obtain rfl | ⟨op, rest, -, hop⟩ := hostStep_next h
  · exact ⟨rfl, rfl⟩
  · exact (hostOp_keeps_cfg_trace hop :)

/-! ## The step of the machine, by who moves (00_scope.md R11) -/

theorem step_of_host {s : State} (hl : s.cfg.Legal) (ht : nextTurn s = .host) :
    step s = hostStep (takeTurn s) := by
  unfold step machineStep
  rw [if_pos hl, ht]

theorem step_of_sequencer {s : State} (hl : s.cfg.Legal) (ht : nextTurn s = .sequencer) :
    step s = .next (sequencerStep (takeTurn s)) := by
  unfold step machineStep
  rw [if_pos hl, ht]

theorem step_of_illegal {s : State} (hl : ¬ s.cfg.Legal) :
    step s = .refused .illegalConfiguration := by
  unfold step machineStep
  rw [if_neg hl]

theorem exec_of_illegal (i : Instr) {s : State} (hl : ¬ s.cfg.Legal) :
    exec i s = .refused .illegalConfiguration := by
  rw [exec_eq_submit, submit_illegal hl]

theorem takeTurn_of_turns_nil {s : State} (h : s.turns = []) : takeTurn s = s := by
  unfold takeTurn
  rw [h, List.tail_nil, ← h]

theorem nextTurn_of_turns_nil_busy {s : State} (h : s.turns = []) (hb : busy s = true) :
    nextTurn s = .sequencer := by
  unfold nextTurn
  rw [h, if_pos hb]

/-- A run begins with the machine's step. -/
theorem run_succ_of_next {s t : core.State} (h : core.step s = .next t) (k : Nat) :
    core.run (k + 1) s = core.run k t := by
  rw [Host.Core.run, h]

theorem hostOp_write_cmd (w : Word) (s : State) : hostOp (.write 0x00 4 w) s = submitWord w s := rfl

theorem submitWord_of_decode {w : Word} {i : Instr} (h : decodeWord w = .ok i) (s : State) :
    submitWord w s = exec i s := by
  unfold submitWord
  rw [h]

/-! ## The constraints of 00_scope.md R8 -/

/-- The test of `Legal` for one set bit says what R8 says: the mask is a power of two. -/
theorem eq_shift_of_one_bit : ∀ m : Byte, m ≠ 0#8 → m &&& (m - 1#8) = 0#8 →
    ∃ k : Fin 8, m = 1#8 <<< k.val := by
  decide

/-! ## The statements -/

/-- Settles O51: the host's move takes the head of the queue. -/
theorem stepRunsHostAccess : Obligations.StepRunsHostAccess := by
  intro s hl ht
  rw [step_of_host hl ht]
  constructor
  · intro op rest hq
    simp only [hostStep, takeTurn, hq]
  · intro hq
    simp only [hostStep, takeTurn, hq]

/-- Settles O13: O51 for a write of a command word. -/
theorem stepRunsDecodedCommand : Obligations.StepRunsDecodedCommand := by
  intro s w rest i hl ht hq hd
  rw [(stepRunsHostAccess s hl ht).1 _ rest hq, hostOp_write_cmd, submitWord_of_decode hd]

/-- Settles O15. -/
theorem sequencerTurnSteps : Obligations.SequencerTurnSteps :=
  fun _ hl ht => step_of_sequencer hl ht

/-- Settles O16, by induction on the number of steps: a sequencer step keeps the configuration and
the empty list of turns. -/
theorem unscheduledRunIsSequencerRun : Obligations.UnscheduledRunIsSequencerRun := by
  intro k
  induction k with
  | zero => intros; rfl
  | succ k ih =>
    intro s hl hturns hbusy
    have hturn := nextTurn_of_turns_nil_busy hturns (hbusy 0 k.succ_pos)
    have hstep : step s = .next (sequencerStep s) := by
      simpa only [takeTurn_of_turns_nil hturns] using step_of_sequencer hl hturn
    exact (run_succ_of_next hstep k).trans <|
      ih (sequencerStep s) (by simpa using hl) (by simpa using hturns)
        fun j hj => hbusy (j + 1) (Nat.succ_lt_succ hj)

/-- Settles O42, by who moves at the step. -/
theorem traceGrowsByAtMostOneEvent : Obligations.TraceGrowsByAtMostOneEvent := by
  intro s t h
  obtain ⟨-, ⟨-, hhost⟩ | ⟨-, rfl⟩ | ⟨-, rfl⟩⟩ := step_next h
  · obtain ⟨hcfg, htrace⟩ := hostStep_keeps_cfg_trace hhost
    exact ⟨hcfg, .inl htrace⟩
  · exact ⟨sequencerStep_cfg _, sequencerStep_trace (takeTurn s)⟩
  · exact ⟨rfl, .inl rfl⟩

/-- Settles O53: the answer is the oracle's next one, and every frame that writes `RDATA` has a
byte 1. -/
theorem frameAnswerIsRecorded : Obligations.FrameAnswerIsRecorded := by
  intro s
  constructor
  · intro tx rx h
    obtain rfl := eq_nextRx_of_sequencerStep_trace h
    exact ⟨Event.rx_xfer_length _ _, fun i hi => Event.rx_xfer_getElem? _ hi⟩
  · intro h
    obtain ⟨tx, hlen, htrace, hrdata⟩ := sequencerStep_of_rdata_ne h
    exact ⟨tx, nextRx s, htrace, by rw [hrdata, Event.rx_xfer_getElem? _ (by omega)]⟩

/-- Settles O12: each listed violation contradicts one constraint of `Legal`. -/
theorem illegalConfigurationRefused : Obligations.IllegalConfigurationRefused := by
  intro s hviolation
  have hl : ¬ s.cfg.Legal := by
    rintro ⟨⟨hId, hSys1, hSys2, hAf, hDir, hSet, hClr⟩, ⟨hDc, hCs, hMode⟩,
      ⟨hReset, hSlpout, hDispon, hBlink⟩, hMask, hOneBit⟩
    have hPower := eq_shift_of_one_bit _ hMask hOneBit
    rw [← BitVec.not_lt] at hId
    rw [← BitVec.not_le] at hSys1 hSys2 hAf hDir hSet hClr
    rw [← Nat.not_lt] at hReset hSlpout hDispon hBlink
    tauto
  exact ⟨step_of_illegal hl, fun i => exec_of_illegal i hl⟩

end Sys2Proof.Machine
end

section
/-! Proofs of the statements of 10_state.md: the register window (R20 to R29), the frame of a
sequencer step (R30, R33), who writes the results and the bus state (R26, R27, R32 to R38), and the
invariants of the machine. -/

namespace Sys2Proof.Machine

open Sys2Proof.Safety

/-! ## What a sequencer step runs: statements of the pseudocode -/

/-- Everything a step over a list of statements can answer, with the statements it runs: some of the
list's assignments, then the event before the new `seq`; or some of them, then completion. -/
theorem runStmts_runs_statements (l : List Stmt) (k n : Nat) (s : State) :
    (∃ as e m, (∀ a ∈ as, .assign a ∈ l) ∧ l[m]? = some (.emit e) ∧
      runStmts k l n s = { EmitStmt.run e (applyAssigns as s) with seq := some (n + m + 1) }) ∨
    ∃ as, (∀ a ∈ as, .assign a ∈ l) ∧ runStmts k l n s = complete (applyAssigns as s) := by
  induction l generalizing k n s with
  | nil => exact .inr ⟨[], by simp, by simp⟩
  | cons st l ih =>
    have later : ∀ {k' : Nat} (as₀ : List Assign), (∀ a ∈ as₀, .assign a ∈ st :: l) →
        runStmts k (st :: l) n s = runStmts k' l (n + 1) (applyAssigns as₀ s) →
        (∃ as e m, (∀ a ∈ as, .assign a ∈ st :: l) ∧ (st :: l)[m]? = some (.emit e) ∧
          runStmts k (st :: l) n s =
            { EmitStmt.run e (applyAssigns as s) with seq := some (n + m + 1) }) ∨
        ∃ as, (∀ a ∈ as, .assign a ∈ st :: l) ∧
          runStmts k (st :: l) n s = complete (applyAssigns as s) := by
      intro k' as₀ has₀ heq
      have comp : ∀ as, applyAssigns as (applyAssigns as₀ s) = applyAssigns (as₀ ++ as) s :=
        fun as => (List.foldl_append ..).symm
      have mem : ∀ {as : List Assign}, (∀ a ∈ as, .assign a ∈ l) →
          ∀ a ∈ as₀ ++ as, .assign a ∈ st :: l := fun h a ha =>
        (List.mem_append.mp ha).elim (has₀ a) fun ha => List.mem_cons_of_mem _ (h a ha)
      rw [heq]
      refine (ih k' (n + 1) (applyAssigns as₀ s)).imp ?_ ?_
      · rintro ⟨as, e, m, has, hm, h⟩
        exact ⟨as₀ ++ as, e, m + 1, mem has, hm, by rw [h, comp, Nat.add_right_comm n 1 m]; rfl⟩
      · rintro ⟨as, has, h⟩
        exact ⟨as₀ ++ as, mem has, comp as ▸ h⟩
    cases k with
    | succ k => exact later [] (by simp) (runStmts_skip k n st l s)
    | zero =>
      cases st with
      | emit e => exact .inl ⟨[], e, 0, by simp, rfl, rfl⟩
      | assign a => exact later [a] (by simp) (runStmts_assign a l n s)
      | skipIf t j => exact later [] (by simp) (runStmts_skipIf t j l n s)
      | complete => exact .inr ⟨[], by simp, rfl⟩

/-- Everything a sequencer step of a running command can answer, with the statements of the
pseudocode it runs. -/
theorem sequencerStep_runs_statements (s : State) (hb : busy s = true) :
    (∃ as e n, (∀ a ∈ as, .assign a ∈ program s) ∧ (program s)[n]? = some (.emit e) ∧
      sequencerStep s = { EmitStmt.run e (applyAssigns as s) with seq := some (n + 1) }) ∨
    ∃ as, (∀ a ∈ as, .assign a ∈ program s) ∧ sequencerStep s = complete (applyAssigns as s) := by
  cases hn : s.seq with
  | none =>
    refine .inr ⟨[], by simp, ?_⟩
    unfold sequencerStep
    rw [hn]
    cases h : s.actOp <;> simp_all [busy]
  | some n =>
    rw [sequencerStep_running hb hn]
    refine (runStmts_runs_statements ((program s).drop n) 0 n s).imp ?_ ?_
    · rintro ⟨as, e, m, has, hm, h⟩
      exact ⟨as, e, n + m, fun a ha => List.mem_of_mem_drop (has a ha), by simpa using hm, h⟩
    · rintro ⟨as, has, h⟩
      exact ⟨as, fun a ha => List.mem_of_mem_drop (has a ha), h⟩

/-! ## Which command's pseudocode holds which assignment and which event -/

/-- The command whose pseudocode makes an assignment (41_bringup.md R120, 43_handshake.md R155). -/
def Assign.owner : Assign → ActOp
  | .buState _ => .bringup
  | .buIdx _ => .bringup
  | .buDone => .bringup
  | .hsState _ => .handshake
  | .hsResult _ => .handshake
  | .touchMode _ => .handshake
  | .hsFallback => .handshake
  | .hsBlinkZero => .handshake

@[simp] theorem assign_notMem_displayFrame (a : Assign) (cfg : Config.Params) (op : Byte)
    (params : List Byte) : .assign a ∉ displayFrame cfg op params := by
  cases params <;> simp [displayFrame]

theorem assign_mem_initFrames {a : Assign} {cfg : Config.Params} {i : Nat}
    {table : List Config.InitEntry} (h : .assign a ∈ initFrames cfg i table) :
    a.owner = .bringup := by
  induction table generalizing i with
  | nil => simp [initFrames] at h
  | cons entry rest ih =>
    obtain rfl | h : a = .buIdx i ∨ .assign a ∈ initFrames cfg (i + 1) rest := by
      simpa [initFrames] using h
    · rfl
    · exact ih h

theorem assign_mem_bringupProgram {a : Assign} {s : State} (h : .assign a ∈ bringupProgram s) :
    a.owner = .bringup := by
  simp only [bringupProgram, cfgDisplay, List.mem_append, List.mem_cons, List.not_mem_nil,
    assign_notMem_displayFrame, Stmt.assign.injEq, reduceCtorEq, false_or, or_false] at h
  obtain (((((rfl | rfl) | h) | rfl) | rfl | rfl) | rfl | rfl | rfl) := h
  any_goals rfl
  exact assign_mem_initFrames h

theorem assign_mem_handshakeProgram (s : State) :
    ∀ a, .assign a ∈ handshakeProgram s → a.owner = .handshake := by
  simp [handshakeProgram, ifFails, fallback, failWith, resetAndClock, gpioAndBlink, blinkPair,
    readId, touchRead, cfgTouch, touchWrite, or_imp, forall_and, Assign.owner]

theorem assign_mem_program {a : Assign} {s : State} (h : .assign a ∈ program s) :
    s.actOp = a.owner := by
  cases hop : s.actOp with
  | none => simp [program, hop] at h
  | dcmd => simp [program, hop, dcmdProgram, cfgDisplay] at h
  | trd => simp [program, hop, trdProgram, cfgTouch, touchRead] at h
  | twr => simp [program, hop, twrProgram, cfgTouch, touchWrite] at h
  | fill => simp [program, hop, fillProgram, cfgDisplay] at h
  | bringup =>
    exact (assign_mem_bringupProgram (by simpa only [program, hop] using h)).symm
  | handshake =>
    exact (assign_mem_handshakeProgram s a (by simpa only [program, hop] using h)).symm

/-- Assignments of another command leave the status of the handshake and the touch mode. -/
theorem applyAssigns_keeps_handshake {as : List Assign} {s : State}
    (h : ∀ a ∈ as, a.owner ≠ .handshake) :
    (applyAssigns as s).touchMode = s.touchMode ∧ (applyAssigns as s).hsState = s.hsState ∧
      (applyAssigns as s).hsResult = s.hsResult ∧
      (applyAssigns as s).hsFallback = s.hsFallback := by
  induction as generalizing s with
  | nil => exact ⟨rfl, rfl, rfl, rfl⟩
  | cons a as ih =>
    obtain ⟨ha, has⟩ := List.forall_mem_cons.mp h
    rw [applyAssigns_cons]
    obtain ⟨h₁, h₂, h₃, h₄⟩ := ih (s := a.run s) has
    rw [h₁, h₂, h₃, h₄]
    cases a with
    | buState | buIdx | buDone => exact ⟨rfl, rfl, rfl, rfl⟩
    | _ => exact absurd rfl ha

/-- Assignments of another command leave the status of the bring-up. -/
theorem applyAssigns_keeps_bringup {as : List Assign} {s : State}
    (h : ∀ a ∈ as, a.owner ≠ .bringup) :
    (applyAssigns as s).buState = s.buState ∧ (applyAssigns as s).buDone = s.buDone := by
  induction as generalizing s with
  | nil => exact ⟨rfl, rfl⟩
  | cons a as ih =>
    obtain ⟨ha, has⟩ := List.forall_mem_cons.mp h
    rw [applyAssigns_cons]
    obtain ⟨h₁, h₂⟩ := ih (s := a.run s) has
    rw [h₁, h₂]
    cases a with
    | buState | buIdx | buDone => exact absurd rfl ha
    | _ => exact ⟨rfl, rfl⟩

/-! ## What a sequencer step leaves unchanged -/

/-- A sequencer step writes the run's own state, the bus, the results and the answers that lie
ahead; the rest stands (40_framing.md R94). -/
theorem sequencerStep_frame (s : State) :
    sequencerStep s = { s with
      done := (sequencerStep s).done, actOp := (sequencerStep s).actOp
      seq := (sequencerStep s).seq, trace := (sequencerStep s).trace
      hsResult := (sequencerStep s).hsResult, hsFallback := (sequencerStep s).hsFallback
      touchMode := (sequencerStep s).touchMode, buDone := (sequencerStep s).buDone
      buState := (sequencerStep s).buState, hsState := (sequencerStep s).hsState
      rdata := (sequencerStep s).rdata, chipId := (sequencerStep s).chipId
      buIdx := (sequencerStep s).buIdx, hsBlink := (sequencerStep s).hsBlink
      vars := (sequencerStep s).vars, dcOut := (sequencerStep s).dcOut
      spiCfg := (sequencerStep s).spiCfg
      frameAnswers := (sequencerStep s).frameAnswers, frameDraws := (sequencerStep s).frameDraws
      levelAnswers := (sequencerStep s).levelAnswers
      levelDraws := (sequencerStep s).levelDraws } := by
  rcases sequencerStep_cases s with ⟨-, h⟩ | ⟨-, ⟨as, e, n, m, -, -, h⟩ | ⟨as, h⟩⟩
  · rw [h]
  · rw [h, EmitStmt.run_frame, applyAssigns_frame]
  · rw [h, applyAssigns_frame]; rfl

/-- Settles O29. -/
theorem sequencerFrame : Obligations.SequencerFrame := by
  intro s
  rw [sequencerStep_frame s]
  exact ⟨rfl, rfl, rfl, rfl, rfl, rfl, rfl, rfl, rfl, rfl, rfl, rfl, rfl, rfl⟩

@[simp] theorem applyAssigns_actOp (as : List Assign) (s : State) :
    (applyAssigns as s).actOp = s.actOp := by
  rw [applyAssigns_frame]

@[simp] theorem applyAssigns_chipId (as : List Assign) (s : State) :
    (applyAssigns as s).chipId = s.chipId := by
  rw [applyAssigns_frame]

@[simp] theorem applyAssigns_dcOut (as : List Assign) (s : State) :
    (applyAssigns as s).dcOut = s.dcOut := by
  rw [applyAssigns_frame]

@[simp] theorem applyAssigns_spiCfg (as : List Assign) (s : State) :
    (applyAssigns as s).spiCfg = s.spiCfg := by
  rw [applyAssigns_frame]

namespace EmitStmt

variable (e : EmitStmt) (s : State)

@[simp] theorem run_actOp : (e.run s).actOp = s.actOp := by rw [e.run_frame]
@[simp] theorem run_touchMode : (e.run s).touchMode = s.touchMode := by rw [e.run_frame]
@[simp] theorem run_hsState : (e.run s).hsState = s.hsState := by rw [e.run_frame]
@[simp] theorem run_hsResult : (e.run s).hsResult = s.hsResult := by rw [e.run_frame]
@[simp] theorem run_hsFallback : (e.run s).hsFallback = s.hsFallback := by rw [e.run_frame]
@[simp] theorem run_buState : (e.run s).buState = s.buState := by rw [e.run_frame]
@[simp] theorem run_buDone : (e.run s).buDone = s.buDone := by rw [e.run_frame]

end EmitStmt

theorem sequencerStep_actOp (s : State) :
    (sequencerStep s).actOp = s.actOp ∨ (sequencerStep s).actOp = .none := by
  rcases sequencerStep_cases s with ⟨-, h⟩ | ⟨-, ⟨as, e, n, m, -, -, h⟩ | ⟨as, h⟩⟩ <;> simp [h]

/-- Settles O30: a step either stops behind an event further on, or completes. -/
theorem sequencerMovesForward : Obligations.SequencerMovesForward := by
  intro s n hb hn
  rcases sequencerStep_cases s with ⟨hidle, -⟩ | ⟨-, ⟨as, e, n', m, hn', hlt, h⟩ | ⟨as, h⟩⟩
  · rw [hidle] at hb; cases hb
  · obtain rfl : n' = n := by simpa [hn'] using hn
    simpa [h] using hlt
  · simp [h, busy]

/-! ## Who writes the results -/

/-- Only a handshake and `TRD` have touch reads, and only a handshake stores what it reads as an
identity (40_framing.md R104, 43_handshake.md R156). -/
theorem touchRead_mem_program_op {tx : Burst} {dst : Bind} {s : State}
    (h : .emit (.touchRead tx dst) ∈ program s) :
    s.actOp = .handshake ∨ s.actOp = .trd ∧ dst = .discard := by
  cases hop : s.actOp with
  | none => simp [program, hop] at h
  | dcmd => simp [program, hop, dcmdProgram, cfgDisplay] at h
  | trd =>
    have htx : tx = touchReadFrame s.cfg (lowField s.lCmd) ∧ dst = .discard := by
      simpa [program, hop, trdProgram, cfgTouch, touchRead] using h
    exact .inr ⟨rfl, htx.2⟩
  | twr => simp [program, hop, twrProgram, cfgTouch, touchWrite] at h
  | fill => simp [program, hop, fillProgram, cfgDisplay] at h
  | bringup => simp [program, hop, bringupProgram, cfgDisplay] at h
  | handshake => exact .inl rfl

/-- Only a touch read with the binding `lo` writes `CHIPID`. -/
theorem EmitStmt.eq_touchRead_lo_of_run_chipId_ne {e : EmitStmt} {s : State}
    (h : (e.run s).chipId ≠ s.chipId) : ∃ tx, e = .touchRead tx .lo := by
  cases e with
  | touchRead tx dst =>
    cases dst with
    | lo => exact ⟨tx, rfl⟩
    | _ => exact absurd rfl h
  | _ => exact absurd rfl h

theorem sequencerStep_chipId {s : State} (hop : s.actOp ≠ .handshake) :
    (sequencerStep s).chipId = s.chipId := by
  by_contra hne
  cases hb : busy s with
  | false => exact hne (by rw [sequencerStep_idle hb])
  | true =>
    rcases sequencerStep_runs_statements s hb with ⟨as, e, n, -, he, h⟩ | ⟨as, -, h⟩
    · obtain ⟨tx, rfl⟩ : ∃ tx, e = .touchRead tx .lo :=
        e.eq_touchRead_lo_of_run_chipId_ne (s := applyAssigns as s) (by simpa [h] using hne)
      have hmem := touchRead_mem_program_op (List.mem_of_getElem? he)
      simp [hop] at hmem
    · exact hne (by simp [h])

theorem sequencerStep_rdata {s : State} (hop : s.actOp ≠ .handshake) (htrd : s.actOp ≠ .trd) :
    (sequencerStep s).rdata = s.rdata := by
  by_contra hne
  rcases sequencerStep_emits_member s with ⟨as, e, m, hmem, h⟩ | ⟨-, hrdata⟩
  · obtain ⟨tx, dst, rfl⟩ : ∃ tx dst, e = .touchRead tx dst :=
      e.eq_touchRead_of_run_rdata_ne (s := applyAssigns as s) (by simpa [h] using hne)
    have hread := touchRead_mem_program_op hmem
    simp [hop, htrd] at hread
  · exact hne hrdata

theorem sequencerStep_keeps_handshake {s : State} (hop : s.actOp ≠ .handshake) :
    (sequencerStep s).touchMode = s.touchMode ∧ (sequencerStep s).hsState = s.hsState ∧
      (sequencerStep s).hsResult = s.hsResult ∧ (sequencerStep s).hsFallback = s.hsFallback := by
  have other : ∀ {as : List Assign}, (∀ a ∈ as, .assign a ∈ program s) →
      ∀ a ∈ as, a.owner ≠ .handshake := fun has a ha => assign_mem_program (has a ha) ▸ hop
  cases hb : busy s with
  | false => simp [sequencerStep_idle hb]
  | true =>
    rcases sequencerStep_runs_statements s hb with ⟨as, e, n, has, -, h⟩ | ⟨as, has, h⟩
    · simpa [h] using applyAssigns_keeps_handshake (s := s) (other has)
    · simpa [h] using applyAssigns_keeps_handshake (s := s) (other has)

theorem sequencerStep_keeps_bringup {s : State} (hop : s.actOp ≠ .bringup) :
    (sequencerStep s).buState = s.buState ∧ (sequencerStep s).buDone = s.buDone := by
  have other : ∀ {as : List Assign}, (∀ a ∈ as, .assign a ∈ program s) →
      ∀ a ∈ as, a.owner ≠ .bringup := fun has a ha => assign_mem_program (has a ha) ▸ hop
  cases hb : busy s with
  | false => simp [sequencerStep_idle hb]
  | true =>
    rcases sequencerStep_runs_statements s hb with ⟨as, e, n, has, -, h⟩ | ⟨as, has, h⟩
    · simpa [h] using applyAssigns_keeps_bringup (s := s) (other has)
    · simpa [h] using applyAssigns_keeps_bringup (s := s) (other has)

/-! ## The bus state and its events (10_state.md R37, R38) -/

/-- From `s` to `t`, `DC_OUT` and `SPI_CFG` change only with their events, to the value the event
carries. -/
def BusFollowsEvents (s t : State) : Prop :=
  (t.dcOut = s.dcOut ∨ t.trace = s.trace ++ [.dc (dcLevel s.cfg t.dcOut)]) ∧
  (t.spiCfg = s.spiCfg ∨ ∃ c, t.spiCfg = some c ∧ t.trace = s.trace ++ [.spiCfg c]) ∧
  (∀ l, t.trace = s.trace ++ [.dc l] → l = dcLevel s.cfg t.dcOut) ∧
  (∀ c, t.trace = s.trace ++ [.spiCfg c] → t.spiCfg = some c)

theorem busFollowsEvents_of_unchanged {s t : State} (hdc : t.dcOut = s.dcOut)
    (hspi : t.spiCfg = s.spiCfg) (htrace : t.trace = s.trace) : BusFollowsEvents s t :=
  ⟨.inl hdc, .inl hspi, by simp [htrace], by simp [htrace]⟩

theorem EmitStmt.busFollowsEvents_run (e : EmitStmt) (s : State) :
    BusFollowsEvents s (e.run s) := by
  cases e with
  | spiCfg | dc | delay | xfer | blinkXfer | sample => simp [BusFollowsEvents, EmitStmt.run]
  | touchRead tx dst => cases dst <;> simp [BusFollowsEvents, EmitStmt.run, bindByte]

theorem busFollowsEvents_sequencerStep (s : State) : BusFollowsEvents s (sequencerStep s) := by
  rcases sequencerStep_cases s with ⟨-, h⟩ | ⟨-, ⟨as, e, n, m, -, -, h⟩ | ⟨as, h⟩⟩
  · exact busFollowsEvents_of_unchanged (by rw [h]) (by rw [h]) (by rw [h])
  · simpa [BusFollowsEvents, h] using e.busFollowsEvents_run (applyAssigns as s)
  · exact busFollowsEvents_of_unchanged (by simp [h]) (by simp [h]) (by simp [h])

/-! ## What a step of the machine can do: the host's part said once -/

/-- `t` is `s` after moves of the host that start no command: `DONE`, the error record, the operand
registers and the host's own side may differ, and the error record stays in agreement. -/
structure HostUpdate (s t : State) : Prop where
  frame : t = { s with
    done := t.done, err := t.err, errCode := t.errCode, arg0 := t.arg0, arg1 := t.arg1
    params := t.params, readLog := t.readLog, hostQueue := t.hostQueue, turns := t.turns }
  keeps_errOk : errOk s = true → errOk t = true

namespace HostUpdate

variable {s t u : State}

theorem trans (h₁ : HostUpdate s t) (h₂ : HostUpdate t u) : HostUpdate s u where
  frame := h₂.frame.trans (by rw [h₁.frame])
  keeps_errOk := h₂.keeps_errOk ∘ h₁.keeps_errOk

theorem takeTurn (s : State) : HostUpdate s (takeTurn s) := ⟨rfl, id⟩

theorem takeOp (s : State) (rest : List HostOp) : HostUpdate s { s with hostQueue := rest } :=
  ⟨rfl, id⟩

theorem reject {c : ErrCode} (hc : c ≠ .none) (s : State) : HostUpdate s (reject c s) where
  frame := rfl
  keeps_errOk _ := by simpa [errOk] using hc

theorem clearStatus (v : Word) (s : State) : HostUpdate s (clearStatus v s) where
  frame := rfl
  keeps_errOk h := by
    simp only [errOk, clearStatus_err, clearStatus_errCode] at h ⊢
    cases v.getLsbD 2 <;> simp_all

theorem cfg (h : HostUpdate s t) : t.cfg = s.cfg := by rw [h.frame]
theorem cmd (h : HostUpdate s t) : t.cmd = s.cmd := by rw [h.frame]
theorem hsResult (h : HostUpdate s t) : t.hsResult = s.hsResult := by rw [h.frame]
theorem hsFallback (h : HostUpdate s t) : t.hsFallback = s.hsFallback := by rw [h.frame]
theorem touchMode (h : HostUpdate s t) : t.touchMode = s.touchMode := by rw [h.frame]
theorem buDone (h : HostUpdate s t) : t.buDone = s.buDone := by rw [h.frame]
theorem buState (h : HostUpdate s t) : t.buState = s.buState := by rw [h.frame]
theorem hsState (h : HostUpdate s t) : t.hsState = s.hsState := by rw [h.frame]
theorem rdata (h : HostUpdate s t) : t.rdata = s.rdata := by rw [h.frame]
theorem chipId (h : HostUpdate s t) : t.chipId = s.chipId := by rw [h.frame]
theorem lCmd (h : HostUpdate s t) : t.lCmd = s.lCmd := by rw [h.frame]
theorem lArg0 (h : HostUpdate s t) : t.lArg0 = s.lArg0 := by rw [h.frame]
theorem lArg1 (h : HostUpdate s t) : t.lArg1 = s.lArg1 := by rw [h.frame]
theorem lP (h : HostUpdate s t) : t.lP = s.lP := by rw [h.frame]
theorem actOp (h : HostUpdate s t) : t.actOp = s.actOp := by rw [h.frame]
theorem seq (h : HostUpdate s t) : t.seq = s.seq := by rw [h.frame]
theorem dcOut (h : HostUpdate s t) : t.dcOut = s.dcOut := by rw [h.frame]
theorem spiCfg (h : HostUpdate s t) : t.spiCfg = s.spiCfg := by rw [h.frame]
theorem trace (h : HostUpdate s t) : t.trace = s.trace := by rw [h.frame]

theorem busy_eq (h : HostUpdate s t) : busy t = busy s := by
  simp only [busy, h.actOp]

theorem program_eq (h : HostUpdate s t) : program t = program s :=
  program_congr h.actOp h.cfg h.lCmd h.lArg0 h.lArg1 h.lP h.touchMode

end HostUpdate

/-- Everything a host operation can answer: it starts no command, or it is the write of a command
that is accepted. -/
theorem hostOp_moves {op : HostOp} {s t : State} (h : hostOp op s = .next t) :
    HostUpdate s t ∨ ∃ i, busy s = false ∧ operandError i s = none ∧ t = acceptResult i s := by
  obtain ⟨w, hw⟩ | ⟨v, rfl⟩ | ⟨a, b, p, rfl⟩ | ⟨r, q, rfl⟩ := hostOp_next h
  · obtain ⟨-, ⟨c, hc, rfl⟩ | ⟨i, -, hb, he, ht⟩⟩ := submitWord_next hw
    · exact .inl (.reject hc s)
    · exact .inr ⟨i, hb, he, ht⟩
  · exact .inl (.clearStatus v s)
  · exact .inl ⟨rfl, id⟩
  · exact .inl ⟨rfl, id⟩

/-- Everything a step of the machine can do: a move of the host that starts no command, the
acceptance of a command while idle, a sequencer step, or the reset. -/
theorem step_moves {s t : State} (h : step s = .next t) :
    HostUpdate s t ∨
    (∃ i u, HostUpdate s u ∧ busy u = false ∧ operandError i u = none ∧ t = acceptResult i u) ∨
    t = sequencerStep (takeTurn s) ∨
    (nextTurn s = .reset ∧ t = assertReset (takeTurn s)) := by
  obtain ⟨-, ⟨-, hhost⟩ | ⟨-, rfl⟩ | hreset⟩ := step_next h
  · obtain rfl | ⟨op, rest, -, hop⟩ := hostStep_next hhost
    · exact .inl (.takeTurn s)
    · have hu : HostUpdate s { takeTurn s with hostQueue := rest } :=
        (HostUpdate.takeTurn s).trans (.takeOp _ rest)
      obtain hupd | ⟨i, hb, he, rfl⟩ := hostOp_moves hop
      · exact .inl (hu.trans hupd)
      · exact .inr (.inl ⟨i, _, hu, hb, he, rfl⟩)
  · exact .inr (.inr (.inl rfl))
  · exact .inr (.inr (.inr hreset))

/-! ## What acceptance leaves unchanged -/

@[simp] theorem acceptResult_actOp (i : Instr) {s : State} (hb : busy s = false) :
    (acceptResult i s).actOp = startedOp i := by
  cases i with
  | nop => exact (busy_eq_false_iff s).mp hb
  | _ => rfl

@[simp] theorem acceptResult_touchMode (i : Instr) (s : State) :
    (acceptResult i s).touchMode = s.touchMode := by cases i <;> rfl
@[simp] theorem acceptResult_chipId (i : Instr) (s : State) :
    (acceptResult i s).chipId = s.chipId := by cases i <;> rfl
@[simp] theorem acceptResult_rdata (i : Instr) (s : State) :
    (acceptResult i s).rdata = s.rdata := by cases i <;> rfl
@[simp] theorem acceptResult_dcOut (i : Instr) (s : State) :
    (acceptResult i s).dcOut = s.dcOut := by cases i <;> rfl
@[simp] theorem acceptResult_spiCfg (i : Instr) (s : State) :
    (acceptResult i s).spiCfg = s.spiCfg := by cases i <;> rfl

theorem acceptResult_keeps_bringup {i : Instr} (s : State) (hi : startedOp i ≠ .bringup) :
    (acceptResult i s).buState = s.buState ∧ (acceptResult i s).buDone = s.buDone := by
  cases i with
  | bringup => exact absurd rfl hi
  | _ => exact ⟨rfl, rfl⟩

theorem acceptResult_keeps_handshake {i : Instr} (s : State) (hi : startedOp i ≠ .handshake) :
    (acceptResult i s).hsState = s.hsState ∧ (acceptResult i s).hsResult = s.hsResult ∧
      (acceptResult i s).hsFallback = s.hsFallback := by
  cases i with
  | handshake => exact absurd rfl hi
  | _ => exact ⟨rfl, rfl, rfl⟩

/-! ## The statements over every step -/

/-- Settles O45: acceptance needs an idle block. -/
theorem oneCommandAtATime : Obligations.OneCommandAtATime := by
  intro s t h hb
  obtain hu | ⟨i, u, hu, hidle, -, -⟩ | rfl | ⟨-, rfl⟩ := step_moves h
  · exact .inl hu.actOp
  · rw [← hu.busy_eq, hidle] at hb; cases hb
  · exact sequencerStep_actOp (takeTurn s)
  · exact .inr rfl

/-- Settles O43. -/
theorem busStateChangesOnlyWithEvents : Obligations.BusStateChangesOnlyWithEvents := by
  intro s t h hturn
  obtain hu | ⟨i, u, hu, -, -, rfl⟩ | rfl | ⟨hreset, -⟩ := step_moves h
  · exact busFollowsEvents_of_unchanged hu.dcOut hu.spiCfg hu.trace
  · exact busFollowsEvents_of_unchanged (by simp [hu.dcOut]) (by simp [hu.spiCfg])
      (by simp [hu.trace])
  · exact busFollowsEvents_sequencerStep (takeTurn s)
  · exact absurd hreset hturn

/-- Settles O44. -/
theorem resultsWrittenOnlyByTheirCommands : Obligations.ResultsWrittenOnlyByTheirCommands := by
  intro s t h hturn
  obtain hu | ⟨i, u, hu, hidle, -, rfl⟩ | rfl | ⟨hreset, -⟩ := step_moves h
  · exact ⟨fun _ => ⟨hu.touchMode, hu.chipId⟩, fun _ _ => hu.rdata,
      fun _ _ => ⟨hu.buState, hu.buDone⟩, fun _ _ => ⟨hu.hsState, hu.hsResult, hu.hsFallback⟩⟩
  · rw [acceptResult_actOp i hidle]
    refine ⟨fun _ => ⟨by simp [hu.touchMode], by simp [hu.chipId]⟩,
      fun _ _ => by simp [hu.rdata], fun _ hi => ?_, fun _ hi => ?_⟩
    · simpa [hu.buState, hu.buDone] using acceptResult_keeps_bringup u hi
    · simpa [hu.hsState, hu.hsResult, hu.hsFallback] using acceptResult_keeps_handshake u hi
  · have hs := fun hop => sequencerStep_keeps_handshake (s := takeTurn s) hop
    exact ⟨fun hop => ⟨(hs hop).1, sequencerStep_chipId (s := takeTurn s) hop⟩,
      fun hop htrd => sequencerStep_rdata (s := takeTurn s) hop htrd,
      fun hop _ => sequencerStep_keeps_bringup (s := takeTurn s) hop, fun hop _ => (hs hop).2⟩
  · exact absurd hreset hturn

/-! ## Fields of a word -/

theorem getLsbD_place {n : Nat} (v : BitVec n) (lo j : Nat) :
    (place v lo).getLsbD j = (decide (lo ≤ j) && decide (j < 32) && v.getLsbD (j - lo)) := by
  rw [place, BitVec.getLsbD_shiftLeft, BitVec.getLsbD_setWidth]
  grind

/-- A field reads back what was placed there. -/
theorem extractLsb'_place_same {n : Nat} (v : BitVec n) {lo : Nat} (h : lo + n ≤ 32) :
    (place v lo).extractLsb' lo n = v := by
  apply BitVec.eq_of_getLsbD_eq
  intro j hj
  simp only [BitVec.getLsbD_extractLsb', getLsbD_place, hj, decide_true, Bool.true_and,
    Nat.add_sub_cancel_left, show lo ≤ lo + j by omega, show lo + j < 32 by omega]

/-- A field holds nothing of what was placed beside it. -/
theorem extractLsb'_place_beside {n : Nat} (v : BitVec n) {lo lo' n' : Nat}
    (h : lo' + n' ≤ lo ∨ lo + n ≤ lo') : (place v lo).extractLsb' lo' n' = 0#n' := by
  apply BitVec.eq_of_getLsbD_eq
  intro j hj
  rw [BitVec.getLsbD_extractLsb', getLsbD_place, BitVec.getLsbD_zero]
  obtain h | h := h
  · simp [show ¬ lo ≤ lo' + j by omega]
  · simp [BitVec.getLsbD_of_ge v _ (show n ≤ lo' + j - lo by omega)]

/-! ## The word of a command decodes to it (30_encoding.md R70 to R79) -/

theorem opField_encode (i : Instr) : opField (encode i) = i.opcode := by
  cases i <;>
    simp [opField, encode, Instr.payload, BitVec.extractLsb'_or, extractLsb'_place_same,
      extractLsb'_place_beside]

theorem operands_encode (i : Instr) : operands i.opcode (encode i) = some i := by
  cases i <;>
    simp [operands, Instr.opcode, dopField, midField, lowField, colorField, encode, Instr.payload,
      BitVec.extractLsb'_or, extractLsb'_place_same, extractLsb'_place_beside]

open Laws.RowEncoding in
/-- A row of the opcode table fixes the reserved bits of its format at 0. -/
theorem row_fixes_reserved (i : Instr) :
    ∃ mask, reservedMask i.opcode = some mask ∧ (row i).1 &&& mask = mask ∧
      (row i).2 &&& mask = 0#32 := by
  cases i <;> exact ⟨_, rfl, by rw [row]; rfl, by rw [row]; rfl⟩

open Laws in
theorem rowEncoding (i : Instr) : RowEncoding.Statement i := by
  cases i with
  | nop => exact RowEncoding.nop
  | dcmd dop nparam => exact RowEncoding.dcmd dop nparam
  | trd taddr => exact RowEncoding.trd taddr
  | twr taddr tval => exact RowEncoding.twr taddr tval
  | fill color => exact RowEncoding.fill color
  | bringup => exact RowEncoding.bringup
  | handshake => exact RowEncoding.handshake

theorem decodeWord_encode (i : Instr) : decodeWord (encode i) = .ok i := by
  obtain ⟨mask, hmask, hfixed, hzero⟩ := row_fixes_reserved i
  have hreserved : encode i &&& mask = 0#32 := by
    rw [← hfixed, ← BitVec.and_assoc, rowEncoding i, hzero]
  rw [decodeWord, opField_encode, hmask, operands_encode]
  exact if_pos hreserved

/-! ## The invariant of the sequencer, the latches and the error record -/

/-- The pseudocode of a command ends with its completion (40_framing.md R95). -/
theorem program_getLast? {s : State} (hb : busy s = true) :
    (program s).getLast? = some .complete := by
  cases hop : s.actOp with
  | none => simp [busy, hop] at hb
  | dcmd => simp [program, hop, dcmdProgram]
  | trd => simp [program, hop, trdProgram]
  | twr => simp [program, hop, twrProgram]
  | fill => simp [program, hop, fillProgram]
  | bringup => simp [program, hop, bringupProgram, List.getLast?_cons]
  | handshake => simp [program, hop, handshakeProgram, List.getLast?_cons]

/-- Behind an event there is another statement. -/
theorem lt_length_of_program_emit {s : State} (hb : busy s = true) {n : Nat} {e : EmitStmt}
    (h : (program s)[n]? = some (.emit e)) : n + 1 < (program s).length := by
  obtain ⟨hn, -⟩ := List.getElem?_eq_some_iff.mp h
  by_contra hge
  have hlast := program_getLast? hb
  rw [List.getLast?_eq_getElem?, show (program s).length - 1 = n by omega, h] at hlast
  cases hlast

theorem stepBegins_of_emit {p : List Stmt} {n : Nat} {e : EmitStmt}
    (h : p[n]? = some (.emit e)) : stepBegins p (n + 1) = true := by
  simp [stepBegins, h]

/-- A sequencer step leaves the pseudocode of a command that goes on: only a handshake writes
`TOUCH_MODE`, and its pseudocode does not depend on it. -/
theorem program_sequencerStep {s : State} (hop : (sequencerStep s).actOp = s.actOp) :
    program (sequencerStep s) = program s := by
  obtain ⟨hcfg, -, -, -, -, -, -, hlCmd, hlArg0, hlArg1, hlP, -⟩ := sequencerFrame s
  by_cases hhs : s.actOp = .handshake
  · simp only [program, hop, hhs, handshakeProgram, hcfg]
  · exact program_congr hop hcfg hlCmd hlArg0 hlArg1 hlP (sequencerStep_keeps_handshake hhs).1

theorem seqOk_sequencerStep {s : State} (hs : seqOk s = true) :
    seqOk (sequencerStep s) = true := by
  cases hb : busy s with
  | false => rwa [sequencerStep_idle hb]
  | true =>
    rcases sequencerStep_runs_statements s hb with ⟨as, e, n, -, he, h⟩ | ⟨as, -, h⟩
    · have hop : (sequencerStep s).actOp = s.actOp := by simp [h]
      have hseq : (sequencerStep s).seq = some (n + 1) := by simp [h]
      have hbusy : busy (sequencerStep s) = true := by
        rw [busy_eq_true_iff] at hb ⊢; rwa [hop]
      simp [seqOk, hseq, hbusy, program_sequencerStep hop, lt_length_of_program_emit hb he,
        stepBegins_of_emit he]
    · simp [h, seqOk, busy]

theorem latchOk_sequencerStep {s : State} (hs : latchOk s = true) :
    latchOk (sequencerStep s) = true := by
  obtain ⟨hcfg, hcmd, -, -, -, -, -, hlCmd, -⟩ := sequencerFrame s
  obtain hop | hop := sequencerStep_actOp s
  · simpa only [latchOk, busy, hop, hcfg, hcmd, hlCmd] using hs
  · simp [latchOk, busy, hop]

theorem windowOk_sequencerStep {s : State} (hs : windowOk s = true) :
    windowOk (sequencerStep s) = true := by
  obtain ⟨-, -, -, -, -, -, -, -, hlArg0, hlArg1, -⟩ := sequencerFrame s
  obtain hop | hop := sequencerStep_actOp s
  · simpa only [windowOk, hop, hlArg0, hlArg1] using hs
  · simp [windowOk, hop]

theorem inv_sequencerStep {s : State} (hs : Inv s) : Inv (sequencerStep s) := by
  obtain ⟨hl, hseq, hlatch, hwindow, herr⟩ := hs
  obtain ⟨hcfg, -, herr', hcode, -⟩ := sequencerFrame s
  exact ⟨by rwa [hcfg], seqOk_sequencerStep hseq, latchOk_sequencerStep hlatch,
    windowOk_sequencerStep hwindow, by simpa only [errOk, herr', hcode] using herr⟩

theorem inv_hostUpdate {s t : State} (h : HostUpdate s t) (hs : Inv s) : Inv t := by
  obtain ⟨hl, hseq, hlatch, hwindow, herr⟩ := hs
  refine ⟨by rwa [h.cfg], ?_, ?_, ?_, h.keeps_errOk herr⟩
  · simpa only [seqOk, h.seq, h.busy_eq, h.program_eq] using hseq
  · simpa only [latchOk, h.busy_eq, h.lCmd, h.actOp, h.cfg, h.cmd] using hlatch
  · simpa only [windowOk, h.actOp, h.lArg0, h.lArg1] using hwindow

/-- The operands that acceptance lets pass are well formed (30_encoding.md R76). -/
theorem wellFormed_of_operandError {i : Instr} {s : State} (h : operandError i s = none) :
    i.wellFormed s.cfg = true := by
  cases i with
  | dcmd dop nparam => simpa [operandError, paramError, Instr.wellFormed] using h
  | trd taddr | twr taddr tval => simpa [operandError, addrError, Instr.wellFormed] using h
  | _ => rfl

theorem acceptResult_seq {i : Instr} (hi : i ≠ .nop) (s : State) :
    (acceptResult i s).seq = some 0 := by
  cases i with
  | nop => exact absurd rfl hi
  | _ => rfl

theorem acceptResult_busy {i : Instr} (hi : i ≠ .nop) (s : State) :
    busy (acceptResult i s) = true := by
  cases i with
  | nop => exact absurd rfl hi
  | _ => rfl

theorem seqOk_acceptResult (i : Instr) {s : State} (hb : busy s = false) (hs : seqOk s = true) :
    seqOk (acceptResult i s) = true := by
  by_cases hi : i = .nop
  · subst hi
    have hseq : (acceptResult .nop s).seq = s.seq := rfl
    have hbusy : busy (acceptResult .nop s) = false := hb
    cases hn : s.seq with
    | none => simp [seqOk, hseq, hn, hbusy]
    | some n => simp [seqOk, hn, hb] at hs
  · have hbusy := acceptResult_busy hi s
    have hpos : 0 < (program (acceptResult i s)).length :=
      List.length_pos_of_mem (List.mem_of_getLast? (program_getLast? hbusy))
    simp [seqOk, acceptResult_seq hi, hbusy, hpos, stepBegins]

theorem latchOk_acceptResult {i : Instr} {s : State} (hb : busy s = false)
    (hi : operandError i s = none) : latchOk (acceptResult i s) = true := by
  have hlCmd : (acceptResult i s).lCmd = encode i := by cases i <;> rfl
  have hcmd : (acceptResult i s).cmd = encode i := by cases i <;> rfl
  simp [latchOk, hlCmd, hcmd, decodeWord_encode, hb, wellFormed_of_operandError hi]

theorem windowOk_iff (s : State) : windowOk s = true ↔
    (s.actOp = .fill → startCoord s.lArg0 ≤ endCoord s.lArg0 ∧
      startCoord s.lArg1 ≤ endCoord s.lArg1) := by
  simp [windowOk, imp_iff_not_or]

/-- A `FILL` that acceptance lets pass has a window that is not inverted (42_fill.md R142). -/
theorem windowOk_acceptResult {i : Instr} {s : State} (hb : busy s = false)
    (hi : operandError i s = none) : windowOk (acceptResult i s) = true := by
  rw [windowOk_iff, acceptResult_actOp i hb]
  cases i with
  | fill color =>
    have hw : startCoord s.arg0 ≤ endCoord s.arg0 ∧ startCoord s.arg1 ≤ endCoord s.arg1 := by
      simpa [operandError, windowError] using hi
    exact fun _ => hw
  | _ => rintro ⟨⟩

theorem inv_acceptResult {i : Instr} {s : State} (hb : busy s = false)
    (hi : operandError i s = none) (hs : Inv s) : Inv (acceptResult i s) := by
  obtain ⟨hl, hseq, -, -, herr⟩ := hs
  have herr' : errOk (acceptResult i s) = errOk s := by cases i <;> rfl
  exact ⟨by simpa using hl, seqOk_acceptResult i hb hseq, latchOk_acceptResult hb hi,
    windowOk_acceptResult hb hi, herr' ▸ herr⟩

theorem inv_assertReset {s : State} (hl : s.cfg.Legal) : Inv (assertReset s) :=
  ⟨hl, rfl, rfl, rfl, rfl⟩

/-- Settles O46, by what the step does. -/
theorem stepKeepsInv : Obligations.StepKeepsInv := by
  intro s t hs h
  obtain hu | ⟨i, u, hu, hb, hi, rfl⟩ | rfl | ⟨-, rfl⟩ := step_moves h
  · exact inv_hostUpdate hu hs
  · exact inv_acceptResult hb hi (inv_hostUpdate hu hs)
  · exact inv_sequencerStep (inv_hostUpdate (.takeTurn s) hs)
  · exact inv_assertReset hs.1

/-- The induction of the status invariants: what the host's updates, acceptance while idle, the
sequencer under `Inv` and the reset keep, every step keeps. -/
theorem step_keeps {J : State → Prop} (update : ∀ {s t}, HostUpdate s t → J s → J t)
    (accept : ∀ (i : Instr) {s}, busy s = false → J s → J (acceptResult i s))
    (sequencer : ∀ {s : State}, Inv s → J s → J (sequencerStep s))
    (reset : ∀ s, J (assertReset s)) {s t : State} (hs : Inv s) (hj : J s)
    (h : step s = .next t) : J t := by
  obtain hu | ⟨i, u, hu, hb, -, rfl⟩ | rfl | ⟨-, rfl⟩ := step_moves h
  · exact update hu hj
  · exact accept i hb (update hu hj)
  · exact sequencer (inv_hostUpdate (.takeTurn s) hs) (update (.takeTurn s) hj)
  · exact reset _

/-! ## Where the steps of a pseudocode begin -/

/-- `Q` holds of what remains behind each event of a list of statements: a sequencer step begins
there. -/
def BehindEvents (Q : List Stmt → Prop) : List Stmt → Prop
  | [] => True
  | .emit _ :: l => Q l ∧ BehindEvents Q l
  | .assign _ :: l => BehindEvents Q l
  | .skipIf _ _ :: l => BehindEvents Q l
  | .complete :: l => BehindEvents Q l

/-- `Q` holds of a list of statements and behind each of its events. -/
def AtSteps (Q : List Stmt → Prop) (l : List Stmt) : Prop := Q l ∧ BehindEvents Q l

section
variable {Q : List Stmt → Prop}

theorem behindEvents_cons (st : Stmt) (l : List Stmt) (h : BehindEvents Q (st :: l)) :
    BehindEvents Q l := by
  cases st with
  | emit e => exact h.2
  | _ => exact h

/-- What holds behind each event holds of the statements at which a later step begins. -/
theorem BehindEvents.drop {p : List Stmt} (h : BehindEvents Q p) {n : Nat} {e : EmitStmt}
    (hn : p[n]? = some (.emit e)) : Q (p.drop (n + 1)) := by
  induction n generalizing p with
  | zero =>
    cases p with
    | nil => cases hn
    | cons st l => cases hn; exact h.1
  | succ n ih =>
    cases p with
    | nil => cases hn
    | cons st l => exact ih (behindEvents_cons st l h) hn

theorem atSteps_emit {e : EmitStmt} {l : List Stmt} (h : Q (.emit e :: l)) (hl : AtSteps Q l) :
    AtSteps Q (.emit e :: l) := ⟨h, hl⟩

theorem atSteps_assign {a : Assign} {l : List Stmt} (h : Q (.assign a :: l)) (hl : AtSteps Q l) :
    AtSteps Q (.assign a :: l) := ⟨h, hl.2⟩

end

/-! ## What a step of a bring-up can do (41_bringup.md R120, R121) -/

/-- `BU_STATE` values within a bring-up. -/
def BuState.inProgress : BuState → Bool
  | .idle => false
  | .done => false
  | _ => true

/-- A sequencer step within a bring-up: assignments of `BU_STATE` and `BU_IDX`, then an event, or
the completion with its assignments. -/
inductive BringupStep : State → State → Prop
  | event {s : State} (e : EmitStmt) (n : Nat) : BringupStep s { e.run s with seq := some (n + 1) }
  | finish {s : State} : BringupStep s (complete (applyAssigns [.buState .done, .buDone] s))
  | buState {s t : State} {b : BuState} (hb : b.inProgress = true)
      (h : BringupStep ((Assign.buState b).run s) t) : BringupStep s t
  | buIdx {s t : State} {i : Nat} (h : BringupStep ((Assign.buIdx i).run s) t) : BringupStep s t

/-- A step over the statements `l` is one of a bring-up. -/
def StepsBringup (l : List Stmt) : Prop := ∀ n s, BringupStep s (runStmts 0 l n s)

theorem StepsBringup.event (e : EmitStmt) (l : List Stmt) : StepsBringup (.emit e :: l) :=
  fun n _ => .event e n

theorem StepsBringup.buState {b : BuState} {l : List Stmt} (hb : b.inProgress = true)
    (h : StepsBringup l) : StepsBringup (.assign (.buState b) :: l) :=
  fun n _ => .buState hb (h (n + 1) _)

theorem StepsBringup.buIdx {i : Nat} {l : List Stmt} (h : StepsBringup l) :
    StepsBringup (.assign (.buIdx i) :: l) :=
  fun n _ => .buIdx (h (n + 1) _)

theorem StepsBringup.finish :
    StepsBringup [.assign (.buState .done), .assign .buDone, .complete] :=
  fun _ _ => .finish

theorem atSteps_displayFrame {cfg : Config.Params} {op : Byte} {params : List Byte}
    {l : List Stmt} (hl : AtSteps StepsBringup l) :
    AtSteps StepsBringup (displayFrame cfg op params ++ l) := by
  have emit : ∀ {e l}, AtSteps StepsBringup l → AtSteps StepsBringup (.emit e :: l) :=
    fun hl => atSteps_emit (.event _ _) hl
  cases params with
  | nil => exact emit (emit (emit hl))
  | cons b bs => exact emit (emit (emit (emit (emit hl))))

theorem atSteps_initFrames {cfg : Config.Params} {l : List Stmt} (hl : AtSteps StepsBringup l)
    (table : List Config.InitEntry) (i : Nat) :
    AtSteps StepsBringup (initFrames cfg i table ++ l) := by
  induction table generalizing i with
  | nil => exact hl
  | cons entry rest ih =>
    have hframe := atSteps_displayFrame (cfg := cfg) (op := entry.op) (params := entry.params)
      (ih (i + 1))
    rw [initFrames, List.cons_append, List.append_assoc]
    exact atSteps_assign (.buIdx hframe.1) hframe

theorem atSteps_bringupProgram (s : State) : AtSteps StepsBringup (bringupProgram s) := by
  have emit : ∀ {e l}, AtSteps StepsBringup l → AtSteps StepsBringup (.emit e :: l) :=
    fun hl => atSteps_emit (.event _ _) hl
  have enter : ∀ {b : BuState} {l}, b.inProgress = true → AtSteps StepsBringup l →
      AtSteps StepsBringup (.assign (.buState b) :: l) :=
    fun hb hl => atSteps_assign (.buState hb hl.1) hl
  simp only [bringupProgram, cfgDisplay, List.append_assoc, List.cons_append, List.nil_append]
  refine emit <| atSteps_displayFrame <| enter rfl <| emit <| enter rfl <|
    atSteps_initFrames ?_ _ _
  refine enter rfl <| atSteps_displayFrame <| enter rfl <| emit <| enter rfl <|
    atSteps_displayFrame <| enter rfl <| emit ?_
  exact ⟨.finish, trivial⟩

/-- Where a running command stands: at its first statement, or behind an event. -/
theorem seq_of_seqOk {s : State} (hb : busy s = true) (hs : seqOk s = true) :
    s.seq = some 0 ∨ ∃ n e, s.seq = some (n + 1) ∧ (program s)[n]? = some (.emit e) := by
  cases hn : s.seq with
  | none => simp [seqOk, hn, hb] at hs
  | some n =>
    cases n with
    | zero => exact .inl rfl
    | succ n =>
      have hbegins : stepBegins (program s) (n + 1) = true := by
        simp only [seqOk, hn, Bool.and_eq_true] at hs
        exact hs.2
      simp only [stepBegins, Nat.add_sub_cancel, Nat.add_eq_zero_iff, one_ne_zero, and_false,
        beq_iff_eq, Bool.or_eq_true, false_or] at hbegins
      split at hbegins
      · exact .inr ⟨n, _, rfl, ‹_›⟩
      · cases hbegins

theorem bringupStep_sequencerStep {s : State} (hop : s.actOp = .bringup) (hs : seqOk s = true) :
    BringupStep s (sequencerStep s) := by
  have hb : busy s = true := by simp [busy_eq_true_iff, hop]
  have hp : AtSteps StepsBringup (program s) := by
    simpa only [program, hop] using atSteps_bringupProgram s
  obtain hn | ⟨n, e, hn, he⟩ := seq_of_seqOk hb hs
  · rw [sequencerStep_running hb hn]; exact hp.1 0 s
  · rw [sequencerStep_running hb hn]; exact hp.2.drop he (n + 1) s

/-! ## `BU_STATE` and `BU_DONE` -/

theorem bringupOk_iff_bringup {s : State} (hop : s.actOp = .bringup) :
    bringupOk s = true ↔ s.buDone = false ∧ s.buState.inProgress = true := by
  cases hb : s.buState <;> simp [bringupOk, hop, hb, BuState.inProgress]

theorem BringupStep.keeps_bringupOk {s t : State} (h : BringupStep s t) (hop : s.actOp = .bringup)
    (hs : bringupOk s = true) : bringupOk t = true := by
  induction h with
  | event e n =>
    rw [bringupOk_iff_bringup hop] at hs
    rw [bringupOk_iff_bringup (by simpa using hop)]
    simpa using hs
  | finish => rfl
  | buState hb _ ih =>
    rw [bringupOk_iff_bringup hop] at hs
    exact ih hop ((bringupOk_iff_bringup (by exact hop)).mpr ⟨hs.1, hb⟩)
  | buIdx _ ih =>
    rw [bringupOk_iff_bringup hop] at hs
    exact ih hop ((bringupOk_iff_bringup hop).mpr hs)

theorem bringupOk_sequencerStep {s : State} (hinv : Inv s) (hs : bringupOk s = true) :
    bringupOk (sequencerStep s) = true := by
  obtain ⟨-, hseq, -⟩ := hinv
  by_cases hop : s.actOp = .bringup
  · exact (bringupStep_sequencerStep hop hseq).keeps_bringupOk hop hs
  · obtain ⟨hstate, hdone⟩ := sequencerStep_keeps_bringup hop
    have hop' : (sequencerStep s).actOp ≠ .bringup := by
      obtain h | h := sequencerStep_actOp s <;> simp [h, hop]
    simpa [bringupOk, hop, hop', hstate, hdone] using hs

theorem bringupOk_acceptResult (i : Instr) {s : State} (hb : busy s = false)
    (hs : bringupOk s = true) : bringupOk (acceptResult i s) = true := by
  have hidle := (busy_eq_false_iff s).mp hb
  by_cases hi : startedOp i = .bringup
  · cases i with
    | bringup => rfl
    | _ => cases hi
  · obtain ⟨hstate, hdone⟩ := acceptResult_keeps_bringup s hi
    simpa [bringupOk, hb, hi, hidle, hstate, hdone] using hs

/-- Settles O47: within a bring-up by what one of its steps can do, outside one by the frame. -/
theorem stepKeepsBringupStatus : Obligations.StepKeepsBringupStatus := fun _ _ hinv hs h =>
  step_keeps (J := fun s => bringupOk s = true)
    (fun hu hs => by simpa only [bringupOk, hu.actOp, hu.buDone, hu.buState] using hs)
    bringupOk_acceptResult bringupOk_sequencerStep (fun _ => rfl) hinv hs h

/-! ## What a step of a handshake can do (43_handshake.md R155, R163) -/

/-- `HS_STATE` values within a handshake. -/
def HsState.inProgress : HsState → Bool
  | .idle => false
  | .pass => false
  | .fail => false
  | _ => true

/-- A sequencer step within a handshake, behind its first event: assignments of `HS_STATE` and
`HS_BLINK`, then an event that leaves the bus configuration, the fallback with its `SpiCfg`, or the
completion with an outcome. -/
inductive HandshakeStep (cfg : Config.Params) : State → State → Prop
  | event {s : State} {e : EmitStmt} (he : ∀ c, e ≠ .spiCfg c) (n : Nat) :
    HandshakeStep cfg s { e.run s with seq := some (n + 1) }
  | fallback {s : State} (n : Nat) : HandshakeStep cfg s
    { EmitStmt.run (.spiCfg (touchConfig cfg .alt))
        (applyAssigns [.hsState .cfgAlt, .touchMode .alt, .hsFallback] s) with seq := some (n + 1) }
  | fail {s : State} {r : HsResult} (hr : r = .failId ∨ r = .failIrq) :
    HandshakeStep cfg s (complete (applyAssigns [.hsResult r, .hsState .fail] s))
  | pass {s : State} :
    HandshakeStep cfg s (complete (applyAssigns [.hsResult .pass, .hsState .pass] s))
  | hsState {s t : State} {b : HsState} (hb : b.inProgress = true)
      (h : HandshakeStep cfg ((Assign.hsState b).run s) t) : HandshakeStep cfg s t
  | hsBlinkZero {s t : State} (h : HandshakeStep cfg (Assign.hsBlinkZero.run s) t) :
    HandshakeStep cfg s t

/-- A step over the statements `l` is one of a handshake. -/
def StepsHandshake (cfg : Config.Params) (l : List Stmt) : Prop :=
  ∀ n s, HandshakeStep cfg s (runStmts 0 l n s)

namespace StepsHandshake

variable {cfg : Config.Params} {l : List Stmt}

theorem event {e : EmitStmt} (he : ∀ c, e ≠ .spiCfg c) : StepsHandshake cfg (.emit e :: l) :=
  fun n _ => .event he n

theorem hsState {b : HsState} (hb : b.inProgress = true) (h : StepsHandshake cfg l) :
    StepsHandshake cfg (.assign (.hsState b) :: l) :=
  fun n _ => .hsState hb (h (n + 1) _)

theorem hsBlinkZero (h : StepsHandshake cfg l) :
    StepsHandshake cfg (.assign .hsBlinkZero :: l) :=
  fun n _ => .hsBlinkZero (h (n + 1) _)

theorem failWith {r : HsResult} (hr : r = .failId ∨ r = .failIrq) :
    StepsHandshake cfg (Machine.failWith r ++ l) :=
  fun _ _ => .fail hr

theorem fallback : StepsHandshake cfg (Machine.fallback cfg ++ l) :=
  fun n _ => .fallback (n + 3)

/-- A test that holds goes on behind its body, one that fails runs the body. -/
theorem ifFails (t : Test) {body : List Stmt} (hbody : StepsHandshake cfg (body ++ l))
    (hl : StepsHandshake cfg l) : StepsHandshake cfg (Machine.ifFails t body ++ l) := by
  intro n s
  rw [Machine.ifFails, List.cons_append, runStmts_skipIf]
  split
  · rw [runStmts_skip_append]
    exact hl _ s
  · exact hbody (n + 1) s

end StepsHandshake

section
variable {cfg : Config.Params} {l : List Stmt}

theorem atSteps_event {e : EmitStmt} (he : ∀ c, e ≠ .spiCfg c)
    (hl : AtSteps (StepsHandshake cfg) l) : AtSteps (StepsHandshake cfg) (.emit e :: l) :=
  atSteps_emit (.event he) hl

theorem atSteps_hsState {b : HsState} (hb : b.inProgress = true)
    (hl : AtSteps (StepsHandshake cfg) l) :
    AtSteps (StepsHandshake cfg) (.assign (.hsState b) :: l) :=
  atSteps_assign (.hsState hb hl.1) hl

theorem atSteps_readId (hl : AtSteps (StepsHandshake cfg) l) :
    AtSteps (StepsHandshake cfg) (readId cfg ++ l) :=
  atSteps_event (by simp) (atSteps_event (by simp) hl)

/-- A test whose failure ends the handshake. -/
theorem atSteps_ifFails_failWith (t : Test) {r : HsResult} (hr : r = .failId ∨ r = .failIrq)
    (hl : AtSteps (StepsHandshake cfg) l) :
    AtSteps (StepsHandshake cfg) (ifFails t (failWith r) ++ l) :=
  ⟨.ifFails t (.failWith hr) hl.1, hl.2⟩

/-- The test whose failure runs the fallback and the one retry (43_handshake.md R157). -/
theorem atSteps_ifFails_fallback (hl : AtSteps (StepsHandshake cfg) l) :
    AtSteps (StepsHandshake cfg) (ifFails .idMatches (fallback cfg) ++ l) := by
  have hretry : AtSteps (StepsHandshake cfg)
      (.assign (.hsState .readId2) ::
        (readId cfg ++ (ifFails .idMatches (failWith .failId) ++ l))) :=
    atSteps_hsState rfl (atSteps_readId (atSteps_ifFails_failWith _ (.inl rfl) hl))
  exact ⟨.ifFails _ .fallback hl.1, hretry⟩

theorem atSteps_resetAndClock (hl : AtSteps (StepsHandshake cfg) l) :
    AtSteps (StepsHandshake cfg) (resetAndClock cfg ++ l) :=
  atSteps_hsState rfl <| atSteps_event (by simp) <| atSteps_hsState rfl <|
    atSteps_event (by simp) hl

theorem atSteps_blink (k : Nat) (hl : AtSteps (StepsHandshake cfg) l) :
    AtSteps (StepsHandshake cfg) ((List.replicate k (blinkPair cfg)).flatten ++ l) := by
  induction k with
  | zero => exact hl
  | succ k ih =>
    exact atSteps_event (by simp) <| atSteps_event (by simp) <| atSteps_event (by simp) <|
      atSteps_event (by simp) ih

theorem atSteps_gpioAndBlink (hl : AtSteps (StepsHandshake cfg) l) :
    AtSteps (StepsHandshake cfg) (gpioAndBlink cfg ++ l) := by
  have hblink := atSteps_blink cfg.blinkPairs hl
  rw [gpioAndBlink, List.append_assoc]
  exact atSteps_hsState rfl <| atSteps_event (by simp) <| atSteps_event (by simp) <|
    atSteps_hsState rfl <| atSteps_assign (.hsBlinkZero hblink.1) hblink

end

theorem behindEvents_handshakeProgram (s : State) :
    BehindEvents (StepsHandshake s.cfg) (handshakeProgram s) := by
  have hpass : AtSteps (StepsHandshake s.cfg)
      [.assign (.hsResult .pass), .assign (.hsState .pass), .complete] :=
    ⟨fun _ _ => .pass, trivial⟩
  simp only [handshakeProgram, List.append_assoc, List.cons_append, List.nil_append]
  exact atSteps_hsState rfl <| atSteps_readId <| atSteps_ifFails_fallback <|
    atSteps_hsState rfl <| atSteps_event (by simp) <|
    atSteps_ifFails_failWith _ (.inr rfl) <| atSteps_resetAndClock <| atSteps_gpioAndBlink hpass

/-- The first step of a handshake: the preferred mode and its `SpiCfg` (43_handshake.md R155). -/
theorem sequencerStep_handshake_first {s : State} (hop : s.actOp = .handshake)
    (hn : s.seq = some 0) :
    sequencerStep s = { EmitStmt.run (.spiCfg (touchConfig s.cfg .pref))
      ((Assign.touchMode .pref).run s) with seq := some 2 } := by
  rw [sequencerStep_running (by simp [busy_eq_true_iff, hop]) hn, program, hop]
  rfl

/-- Every later step of a handshake. -/
theorem handshakeStep_sequencerStep {s : State} (hop : s.actOp = .handshake)
    (hs : seqOk s = true) (hn : s.seq ≠ some 0) : HandshakeStep s.cfg s (sequencerStep s) := by
  have hb : busy s = true := by simp [busy_eq_true_iff, hop]
  have hp : BehindEvents (StepsHandshake s.cfg) (program s) := by
    simpa only [program, hop] using behindEvents_handshakeProgram s
  obtain ⟨n, e, hn', he⟩ := (seq_of_seqOk hb hs).resolve_left hn
  rw [sequencerStep_running hb hn']
  exact hp.drop he (n + 1) s

/-! ## The status fields of the handshake -/

theorem handshakeOk_iff_first {s : State} (hop : s.actOp = .handshake) (hn : s.seq = some 0) :
    handshakeOk s = true ↔
      s.hsResult = .none ∧ s.hsState.inProgress = true ∧ s.hsFallback = false := by
  cases hs : s.hsState <;> simp [handshakeOk, hop, hn, hs, HsState.inProgress]

theorem handshakeOk_iff_later {s : State} (hop : s.actOp = .handshake) (hn : s.seq ≠ some 0) :
    handshakeOk s = true ↔
      s.hsResult = .none ∧ s.hsState.inProgress = true ∧ s.hsFallback = touchAlt s := by
  cases hs : s.hsState <;> simp [handshakeOk, hop, hn, hs, HsState.inProgress, modeOk]

/-- The outcome that `HS_STATE` says outside a handshake (43_handshake.md R163). -/
def outcomeOk : HsState → HsResult → Bool
  | .idle, r => r == .none
  | .pass, r => r == .pass
  | .fail, r => r == .failId || r == .failIrq
  | _, _ => false

theorem handshakeOk_iff_outside {s : State} (hop : s.actOp ≠ .handshake) :
    handshakeOk s = true ↔
      s.hsFallback = touchAlt s ∧ outcomeOk s.hsState s.hsResult = true := by
  cases hs : s.hsState <;> simp [handshakeOk, hop, hs, outcomeOk, modeOk]

theorem HandshakeStep.keeps_handshakeOk {cfg : Config.Params} {s t : State}
    (h : HandshakeStep cfg s t) (hop : s.actOp = .handshake) (hn : s.seq ≠ some 0)
    (hs : handshakeOk s = true) : handshakeOk t = true := by
  rw [handshakeOk_iff_later hop hn] at hs
  obtain ⟨hresult, hstate, hmode⟩ := hs
  induction h with
  | event he n =>
    rw [handshakeOk_iff_later (by simpa using hop) (by simp)]
    exact ⟨by simpa using hresult, by simpa using hstate, by simpa [touchAlt] using hmode⟩
  | fallback n =>
    rw [handshakeOk_iff_later (by exact hop) (by simp)]
    exact ⟨hresult, rfl, rfl⟩
  | fail hr =>
    rw [handshakeOk_iff_outside (by simp)]
    exact ⟨hmode, by simpa [applyAssigns, Assign.run, outcomeOk] using hr⟩
  | pass =>
    rw [handshakeOk_iff_outside (by simp)]
    exact ⟨hmode, rfl⟩
  | hsState hb _ ih => exact ih hop hn hresult hb hmode
  | hsBlinkZero _ ih => exact ih hop hn hresult hstate hmode

theorem handshakeOk_sequencerStep {s : State} (hinv : Inv s) (hs : handshakeOk s = true) :
    handshakeOk (sequencerStep s) = true := by
  obtain ⟨-, hseq, -⟩ := hinv
  by_cases hop : s.actOp = .handshake
  · by_cases hn : s.seq = some 0
    · rw [handshakeOk_iff_first hop hn] at hs
      rw [sequencerStep_handshake_first hop hn,
        handshakeOk_iff_later (by simpa [Assign.run] using hop) (by simp)]
      exact hs
    · exact (handshakeStep_sequencerStep hop hseq hn).keeps_handshakeOk hop hn hs
  · obtain ⟨hmode, hstate, hresult, hfallback⟩ := sequencerStep_keeps_handshake hop
    have hop' : (sequencerStep s).actOp ≠ .handshake := by
      obtain h | h := sequencerStep_actOp s <;> simp [h, hop]
    rw [handshakeOk_iff_outside hop] at hs
    rw [handshakeOk_iff_outside hop', hstate, hresult, hfallback]
    simpa only [touchAlt, hmode] using hs

theorem handshakeOk_acceptResult (i : Instr) {s : State} (hb : busy s = false)
    (hs : handshakeOk s = true) : handshakeOk (acceptResult i s) = true := by
  have hidle := (busy_eq_false_iff s).mp hb
  by_cases hi : startedOp i = .handshake
  · cases i with
    | handshake => rfl
    | _ => cases hi
  · obtain ⟨hstate, hresult, hfallback⟩ := acceptResult_keeps_handshake s hi
    rw [handshakeOk_iff_outside (by simp [hidle])] at hs
    rw [handshakeOk_iff_outside (by simpa [hb] using hi), hstate, hresult, hfallback]
    simpa only [touchAlt, acceptResult_touchMode] using hs

/-- Settles O48: within a handshake by what its first and its later steps can do, outside one by the
frame. -/
theorem stepKeepsHandshakeStatus : Obligations.StepKeepsHandshakeStatus := fun _ _ hinv hs h =>
  step_keeps (J := fun s => handshakeOk s = true)
    (fun hu hs => by
      simpa only [handshakeOk, modeOk, touchAlt, hu.actOp, hu.seq, hu.hsResult, hu.hsState,
        hu.hsFallback, hu.touchMode] using hs)
    handshakeOk_acceptResult handshakeOk_sequencerStep (fun _ => rfl) hinv hs h

/-! ## `SPI_CFG` of the running command -/

/-- The configuration of the device and the mode that the command uses (40_framing.md R99, R100). -/
def commandConfig (s : State) : SpiConfig :=
  match s.actOp with
  | .trd => touchConfig s.cfg s.touchMode
  | .twr => touchConfig s.cfg s.touchMode
  | .handshake => touchConfig s.cfg s.touchMode
  | _ => displayConfig s.cfg

theorem busOk_iff (s : State) : busOk s = true ↔
    (busy s = true → s.seq = some 0 ∨ s.spiCfg = some (commandConfig s)) := by
  cases hop : s.actOp <;> simp [busOk, busy, commandConfig, hop]

theorem EmitStmt.run_spiCfg (e : EmitStmt) (s : State) :
    (∃ c, e = .spiCfg c ∧ (e.run s).spiCfg = some c) ∨
    ((∀ c, e ≠ .spiCfg c) ∧ (e.run s).spiCfg = s.spiCfg) := by
  cases e with
  | spiCfg c => exact .inl ⟨c, rfl, rfl⟩
  | touchRead tx dst => exact .inr ⟨by simp, by cases dst <;> rfl⟩
  | _ => exact .inr ⟨by simp, rfl⟩

@[simp] theorem spiCfg_notMem_displayFrame (c : SpiConfig) (cfg : Config.Params) (op : Byte)
    (params : List Byte) : .emit (.spiCfg c) ∉ displayFrame cfg op params := by
  cases params <;> simp [displayFrame]

@[simp] theorem spiCfg_notMem_initFrames (c : SpiConfig) (cfg : Config.Params) (i : Nat)
    (table : List Config.InitEntry) : .emit (.spiCfg c) ∉ initFrames cfg i table := by
  induction table generalizing i with
  | nil => simp [initFrames]
  | cons entry rest ih => simp [initFrames, ih]

/-- Short of a handshake, every `SpiCfg` of a command carries the one configuration it uses. -/
theorem spiCfg_mem_program {c : SpiConfig} {s : State} (hop : s.actOp ≠ .handshake)
    (h : .emit (.spiCfg c) ∈ program s) : c = commandConfig s := by
  cases hs : s.actOp with
  | none => simp [program, hs] at h
  | dcmd => simpa [program, commandConfig, hs, dcmdProgram, cfgDisplay] using h
  | trd => simpa [program, commandConfig, hs, trdProgram, cfgTouch, touchRead] using h
  | twr => simpa [program, commandConfig, hs, twrProgram, cfgTouch, touchWrite] using h
  | fill => simpa [program, commandConfig, hs, fillProgram, cfgDisplay] using h
  | bringup => simpa [program, commandConfig, hs, bringupProgram, cfgDisplay] using h
  | handshake => exact absurd hs hop

/-- Short of a handshake, a command begins with its `SpiCfg` (40_framing.md R100). -/
theorem program_head {s : State} (hb : busy s = true) (hop : s.actOp ≠ .handshake) :
    ∃ l, program s = .emit (.spiCfg (commandConfig s)) :: l := by
  cases hs : s.actOp with
  | none => simp [busy, hs] at hb
  | handshake => exact absurd hs hop
  | dcmd | trd | twr | fill | bringup =>
    simp only [program, commandConfig, hs]
    exact ⟨_, rfl⟩

theorem commandConfig_sequencerStep {s : State} (hop : (sequencerStep s).actOp = s.actOp)
    (hhs : s.actOp ≠ .handshake) : commandConfig (sequencerStep s) = commandConfig s := by
  simp only [commandConfig, hop, sequencerStep_cfg, (sequencerStep_keeps_handshake hhs).1]

/-- Short of a handshake, `SPI_CFG` is the command's after every step but the last. -/
theorem sequencerStep_spiCfg {s : State} (hb : busy s = true) (hhs : s.actOp ≠ .handshake)
    (hs : s.seq = some 0 ∨ s.spiCfg = some (commandConfig s))
    (hb' : busy (sequencerStep s) = true) :
    (sequencerStep s).spiCfg = some (commandConfig s) := by
  by_cases hn : s.seq = some 0
  · obtain ⟨l, hl⟩ := program_head hb hhs
    rw [sequencerStep_running hb hn, hl]
    rfl
  · rcases sequencerStep_runs_statements s hb with ⟨as, e, n, -, he, h⟩ | ⟨as, -, h⟩
    · obtain ⟨c, rfl, hc⟩ | ⟨-, hc⟩ := e.run_spiCfg (applyAssigns as s)
      · rw [h, hc, spiCfg_mem_program hhs (List.mem_of_getElem? he)]
      · simpa [h, hc] using hs.resolve_left hn
    · simp [h, busy] at hb'

theorem HandshakeStep.keeps_spiCfg {cfg : Config.Params} {s t : State}
    (h : HandshakeStep cfg s t) (hs : s.spiCfg = some (touchConfig cfg s.touchMode)) :
    t.spiCfg = some (touchConfig cfg t.touchMode) := by
  induction h with
  | @event s e he n =>
    have hc := (e.run_spiCfg s).resolve_left fun ⟨c, hc, _⟩ => he c hc
    simpa [hc.2] using hs
  | fallback n => rfl
  | fail hr => exact hs
  | pass => exact hs
  | hsState _ _ ih => exact ih hs
  | hsBlinkZero _ ih => exact ih hs

theorem busOk_sequencerStep {s : State} (hinv : Inv s) (hs : busOk s = true) :
    busOk (sequencerStep s) = true := by
  obtain ⟨-, hseq, -⟩ := hinv
  rw [busOk_iff] at hs ⊢
  intro hb'
  have hop : (sequencerStep s).actOp = s.actOp :=
    (sequencerStep_actOp s).resolve_right ((busy_eq_true_iff _).mp hb')
  have hb : busy s = true := by rwa [busy_eq_true_iff, hop, ← busy_eq_true_iff] at hb'
  by_cases hhs : s.actOp = .handshake
  · have hconfig : commandConfig (sequencerStep s) =
        touchConfig s.cfg (sequencerStep s).touchMode := by
      simp only [commandConfig, hop, hhs, sequencerStep_cfg]
    rw [hconfig]
    by_cases hn : s.seq = some 0
    · rw [sequencerStep_handshake_first hhs hn]
      exact .inr rfl
    · refine .inr ((handshakeStep_sequencerStep hhs hseq hn).keeps_spiCfg ?_)
      simpa only [commandConfig, hhs] using (hs hb).resolve_left hn
  · rw [commandConfig_sequencerStep hop hhs]
    exact .inr (sequencerStep_spiCfg hb hhs (hs hb) hb')

/-- Settles O49: a command's first event sets its configuration, and only the fallback of a
handshake changes it, together with `TOUCH_MODE`. -/
theorem stepKeepsBusConfiguration : Obligations.StepKeepsBusConfiguration := fun _ _ hinv hs h =>
  step_keeps (J := fun s => busOk s = true)
    (fun hu hs => by
      simpa only [busOk_iff, commandConfig, hu.busy_eq, hu.seq, hu.spiCfg, hu.actOp, hu.cfg,
        hu.touchMode] using hs)
    (fun i s hb _ => by
      cases i with
      | nop => rw [busOk_iff]; exact fun hb' => absurd (hb.symm.trans hb') (by simp)
      | _ => rfl)
    busOk_sequencerStep (fun _ => rfl) hinv hs h

/-! ## The register window (10_state.md R20 to R29) -/

@[simp] theorem getLsbD_bit (b : Bool) (j : Nat) : (bit b).getLsbD j = (decide (j = 0) && b) := by
  cases b <;> simp [bit]

theorem busy_eq_bne (s : State) : busy s = (s.actOp != .none) := by
  unfold busy
  cases s.actOp <;> rfl

theorem touchAlt_eq_beq (s : State) : touchAlt s = (s.touchMode == .alt) := by
  unfold touchAlt
  cases s.touchMode <;> rfl

/-- Settles O19: each field of the word is read apart from the others; what remains is the codes. -/
theorem statusFields : Obligations.StatusFields := by
  intro s
  simp only [statusWord, BitVec.getLsbD_or, getLsbD_place, getLsbD_bit, busy_eq_bne,
    touchAlt_eq_beq, BitVec.extractLsb'_or]
  refine ⟨?_, ?_, ?_, ?_, ?errCode, ?hsResult, ?_, ?_, ?_, ?_, ?buState, ?hsState, ?_⟩
  case errCode =>
    simp [extractLsb'_place_same, extractLsb'_place_beside]
    cases s.errCode <;> rfl
  case hsResult =>
    simp [extractLsb'_place_same, extractLsb'_place_beside]
    cases s.hsResult <;> rfl
  case buState =>
    simp [extractLsb'_place_same, extractLsb'_place_beside]
    cases s.buState <;> rfl
  case hsState =>
    simp [extractLsb'_place_same, extractLsb'_place_beside]
    cases s.hsState <;> rfl
  all_goals simp [extractLsb'_place_beside]

/-- Settles O20. -/
theorem statusWriteClears : Obligations.StatusWriteClears := by
  intro s v
  have hwrite : hostOp (.write 0x04 4 v) s = .next (clearStatus v s) := rfl
  rw [hwrite, clearStatus]
  cases v.getLsbD 1 <;> cases v.getLsbD 2 <;> simp

/-- Settles O21. -/
theorem readOnlyOffsetsIgnoreWrites : Obligations.ReadOnlyOffsetsIgnoreWrites := by
  rintro s v off (rfl | rfl | rfl | rfl) <;> rfl

/-- The registers `PARAM0` to `PARAM7` stand at `0x20` to `0x3C` (10_state.md R20). -/
theorem hostAccess_param (k : Fin 8) : hostAccess (0x20 + 4 * k.val) 4 = .ok (.param k) := by
  fin_cases k <;> rfl

theorem hostOp_write_param (k : Fin 8) (v : Word) (s : State) :
    hostOp (.write (0x20 + 4 * k.val) 4 v) s = .next { s with params := s.params.set v k } := by
  simp only [hostOp, hostAccess_param, writeAccess, writeReg]

/-- Settles O22. -/
theorem operandRegistersStore : Obligations.OperandRegistersStore := by
  intro s v
  exact ⟨rfl, rfl, fun k => ⟨s.params.set v k, hostOp_write_param k v s,
    s.params.get_set_same v k, fun j hj => s.params.get_set_other v hj⟩⟩

/-- Settles O23. -/
theorem hostReadValues : Obligations.HostReadValues := by
  intro s
  refine ⟨rfl, rfl, rfl, rfl, rfl, rfl, rfl, rfl, fun k => ?_, fun _ _ => rfl⟩
  simp only [hostOp, hostAccess_param, readAccess, readReg]

/-! ## The parameter buffer (10_state.md R28) -/

/-- Settles O25. -/
theorem parameterBytePacking : Obligations.ParameterBytePacking := by
  intro p
  refine ⟨p.length_bytes, fun k j => ?_⟩
  fin_cases k <;> fin_cases j <;> rfl

/-- A write of `PARAMk` replaces its four bytes of the buffer. -/
theorem ParamRegs.bytes_set (p : ParamRegs) (v : Word) (k : Fin 8) :
    (p.set v k).bytes =
      p.bytes.take (4 * k.val) ++ wordBytes v ++ p.bytes.drop (4 * k.val + 4) := by
  fin_cases k <;> rfl

/-! ## `setparams` (30_encoding.md R87) -/

/-- The four bytes that the write of a packed word stores. -/
theorem wordBytes_packBytes (b : List Byte) : wordBytes (packBytes b) =
    [b.getD 0 0#8, b.getD 1 0#8, b.getD 2 0#8, b.getD 3 0#8] := by
  simp [wordBytes, packBytes, BitVec.extractLsb'_or, extractLsb'_place_same,
    extractLsb'_place_beside]

/-- The bytes of a `setparams` with the zeros up to the end of the last register it writes. -/
def padded (b : List Byte) : List Byte :=
  b ++ List.replicate (4 * ((b.length + 3) / 4) - b.length) 0#8

theorem length_padded (b : List Byte) : (padded b).length = 4 * ((b.length + 3) / 4) := by
  simp [padded]; omega

/-- The first register written, and the rest. -/
theorem padded_eq_word_append {b : List Byte} (hb : b ≠ []) :
    padded b = wordBytes (packBytes b) ++ padded (b.drop 4) := by
  rw [wordBytes_packBytes]
  match b with
  | [x] | [x, y] | [x, y, z] => simp [padded]
  | x :: y :: z :: w :: rest =>
    have hzeros : 4 * ((rest.length + 1 + 1 + 1 + 1 + 3) / 4) - (rest.length + 1 + 1 + 1 + 1) =
        4 * ((rest.length + 3) / 4) - rest.length := by omega
    simp [padded, hzeros]

theorem runHostOps_cons {op : HostOp} {s t : State} (h : hostOp op s = .next t)
    (rest : List HostOp) : runHostOps (op :: rest) s = runHostOps rest t := by
  rw [runHostOps, h]

theorem paramWrites_cons (n k : Nat) {b : List Byte} (hb : b ≠ []) :
    paramWrites (n + 1) k b =
      .write (0x20 + 4 * k) 4 (packBytes b) :: paramWrites n (k + 1) (b.drop 4) := by
  cases b with
  | nil => exact absurd rfl hb
  | cons x xs => rfl

/-- The buffer up to and including a register just written. -/
theorem ParamRegs.take_bytes_set (p : ParamRegs) (v : Word) (k : Fin 8) :
    (p.set v k).bytes.take (4 * (k.val + 1)) = p.bytes.take (4 * k.val) ++ wordBytes v := by
  rw [p.bytes_set]
  refine List.take_left' ?_
  rw [List.length_append, List.length_take, p.length_bytes, show (wordBytes v).length = 4 from rfl]
  omega

/-- The buffer behind a register just written. -/
theorem ParamRegs.drop_bytes_set (p : ParamRegs) (v : Word) (k : Fin 8) (m : Nat) :
    (p.set v k).bytes.drop (4 * (k.val + 1) + m) = p.bytes.drop (4 * (k.val + 1) + m) := by
  have hlen : (p.bytes.take (4 * k.val) ++ wordBytes v).length = 4 * (k.val + 1) := by
    rw [List.length_append, List.length_take, p.length_bytes,
      show (wordBytes v).length = 4 from rfl]
    omega
  rw [p.bytes_set, ← hlen, List.drop_length_add_append, hlen, List.drop_drop]
  rfl

/-- The writes of `setparams` from `PARAMk` on, within the buffer. -/
theorem runHostOps_paramWrites (n k : Nat) (b : List Byte) (s : State) (hn : b.length ≤ n)
    (hk : 4 * k + b.length ≤ 32) :
    ∃ p, runHostOps (paramWrites n k b) s = .next { s with params := p } ∧
      p.bytes = s.params.bytes.take (4 * k) ++ padded b ++
        s.params.bytes.drop (4 * k + (padded b).length) := by
  induction n generalizing k b s with
  | zero =>
    obtain rfl : b = [] := List.eq_nil_of_length_eq_zero (by omega)
    exact ⟨s.params, rfl, by simp [padded]⟩
  | succ n ih =>
    by_cases hb : b = []
    · subst hb
      exact ⟨s.params, rfl, by simp [padded]⟩
    · have hpos := List.length_pos_of_ne_nil hb
      let k₈ : Fin 8 := ⟨k, by omega⟩
      have hwrite := hostOp_write_param k₈ (packBytes b) s
      obtain ⟨p, hrun, hbytes⟩ := ih (k + 1) (b.drop 4)
        { s with params := s.params.set (packBytes b) k₈ } (by simp; omega) (by simp; omega)
      refine ⟨p, by rw [paramWrites_cons n k hb, runHostOps_cons hwrite, hrun], ?_⟩
      have hlen : (padded b).length = 4 + (padded (b.drop 4)).length := by
        rw [padded_eq_word_append hb, List.length_append]; rfl
      rw [hbytes, s.params.take_bytes_set _ k₈, s.params.drop_bytes_set _ k₈, hlen,
        padded_eq_word_append hb, ← Nat.add_assoc]
      simp only [List.append_assoc]
      rfl

/-- Past the buffer they end outside the window (20_memory.md R55). -/
theorem runHostOps_paramWrites_outside (n k : Nat) (b : List Byte) (s : State)
    (hn : b.length ≤ n) (hk : k ≤ 8) (hlong : 32 < 4 * k + b.length) :
    runHostOps (paramWrites n k b) s = .refused .hostAccessOutside := by
  induction n generalizing k b s with
  | zero => omega
  | succ n ih =>
    have hb : b ≠ [] := by rintro rfl; simp at hlong; omega
    rw [paramWrites_cons n k hb]
    obtain rfl | hlt := Nat.eq_or_lt_of_le hk
    · rfl
    · rw [runHostOps_cons (hostOp_write_param ⟨k, hlt⟩ (packBytes b) s)]
      exact ih (k + 1) (b.drop 4) _ (by simp; omega) hlt (by simp; omega)

/-- Settles O26. -/
theorem setparamsFillsBuffer : Obligations.SetparamsFillsBuffer := by
  intro s bytes
  have expand : ¬ s.cfg.pMax < bytes.length →
      (Pseudo.setparams bytes).expand s.cfg.pMax = some (paramWrites bytes.length 0 bytes) :=
    fun h => if_pos (Nat.le_of_not_lt h)
  split
  · exact if_neg (by omega)
  · rename_i hmax
    split
    · obtain ⟨p, hrun, hbytes⟩ := runHostOps_paramWrites bytes.length 0 bytes s le_rfl (by omega)
      refine ⟨_, p, expand hmax, hrun, ?_⟩
      rw [hbytes, length_padded, padded]
      simp
    · exact ⟨_, expand hmax,
        runHostOps_paramWrites_outside _ 0 bytes s le_rfl (by omega) (by omega)⟩

end Sys2Proof.Machine
end

section
/-! Proofs of the statements of 20_memory.md: which host accesses have a meaning (R55), where the
window stands (R59), and which registers a running command does not read (R65). -/

namespace Sys2Proof.Machine

open Sys2Proof.Safety

/-! ## Which accesses reach a register (20_memory.md R55) -/

/-- The map of 10_state.md R20 has no gap: a register stands at every multiple of 4 up to `0x3C`. -/
theorem exists_hostReg_eq_some_iff (off : Nat) :
    (∃ r, hostReg off = some r) ↔ off % 4 = 0 ∧ off ≤ 0x3C := by
  constructor
  · rintro ⟨r, h⟩
    unfold hostReg at h
    split at h <;> simp at h ⊢
  · rintro ⟨hmod, hle⟩
    have window : ∀ k : Fin 16, (hostReg (4 * k.val)).isSome := by decide
    have hoff : 4 * (off / 4) = off := by omega
    have hreg := window ⟨off / 4, by omega⟩
    rwa [hoff, Option.isSome_iff_exists] at hreg

theorem exists_hostAccess_eq_ok_iff (off width : Nat) :
    (∃ r, hostAccess off width = .ok r) ↔ width = 4 ∧ off % 4 = 0 ∧ off ≤ 0x3C := by
  unfold hostAccess
  split
  · simp [*]
  · split
    · simp [*]
    · rename_i hw _
      rw [Decidable.not_not] at hw
      simp only [hw, true_and, ← exists_hostReg_eq_some_iff]
      cases hostReg off <;> simp

/-! ## What an access that reaches a register answers -/

theorem exists_submit_eq_next (error : Option ErrCode) (a : State) {s : State} (hl : s.cfg.Legal) :
    ∃ t, submit error a s = .next t := by
  cases hb : busy s with
  | true => exact ⟨_, submit_busy hl hb⟩
  | false =>
    cases error with
    | some c => exact ⟨_, submit_error hl hb⟩
    | none => exact ⟨_, submit_accept hl hb⟩

theorem exists_submitWord_eq_next (w : Word) {s : State} (hl : s.cfg.Legal) :
    ∃ t, submitWord w s = .next t := by
  unfold submitWord
  split
  · rw [exec_eq_submit]
    exact exists_submit_eq_next _ _ hl
  · exact exists_submit_eq_next _ _ hl

theorem exists_writeReg_eq_next (r : HostReg) (v : Word) {s : State} (hl : s.cfg.Legal) :
    ∃ t, writeReg r v s = .next t := by
  cases r with
  | cmd => exact exists_submitWord_eq_next v hl
  | _ => exact ⟨_, rfl⟩

/-- Settles O24: an access is refused exactly where `hostAccess` reaches no register. -/
theorem hostAccessContract : Obligations.HostAccessContract := by
  intro s off width v hl
  have hreach := exists_hostAccess_eq_ok_iff off width
  simp only [hostOp]
  cases h : hostAccess off width with
  | ok r =>
    rw [if_pos (hreach.mp ⟨r, h⟩)]
    exact ⟨⟨_, rfl⟩, exists_writeReg_eq_next r v hl⟩
  | error e =>
    rw [if_neg (fun hok => by simpa [h] using hreach.mpr hok)]
    exact ⟨⟨e, rfl⟩, e, rfl⟩

/-! ## Where the window stands (20_memory.md R59) -/

theorem exists_hostAccessAt_eq_error_of_below {base addr : Nat} (h : addr < base) (width : Nat) :
    ∃ e, hostAccessAt base addr width = .error e := by
  unfold hostAccessAt
  rw [if_neg (Nat.not_le.mpr h)]
  split <;> exact ⟨_, rfl⟩

/-- Settles O52. -/
theorem windowStandsAtFramerBase : Obligations.WindowStandsAtFramerBase := by
  intro s off width v
  refine ⟨by simp [hostOp], by simp [hostOp], fun addr haddr => ?_⟩
  obtain ⟨e, he⟩ := exists_hostAccessAt_eq_error_of_below haddr width
  simp only [hostOp, he]
  exact ⟨⟨e, rfl⟩, e, rfl⟩

/-! ## The operand registers of a running command (20_memory.md R65) -/

/-- A running command whose `seq` is at `END` completes (log 12). -/
theorem sequencerStep_at_end {s : State} (hb : busy s = true) (hn : s.seq = none) :
    sequencerStep s = complete s := by
  rw [busy_eq_true_iff] at hb
  unfold sequencerStep
  split
  · exact absurd ‹_› hb
  · simp_all
  · rfl

/-- `ARG0`, `ARG1` and `PARAM0` to `PARAM7` at other values; the rest stands. -/
def withOperands (a0 a1 : Word) (p : ParamRegs) (s : State) : State :=
  { s with arg0 := a0, arg1 := a1, params := p }

section
variable (a0 a1 : Word) (p : ParamRegs) (s : State)

@[simp] theorem busy_withOperands : busy (withOperands a0 a1 p s) = busy s := rfl
@[simp] theorem withOperands_seq : (withOperands a0 a1 p s).seq = s.seq := rfl

theorem EmitStmt.run_withOperands (e : EmitStmt) :
    e.run (withOperands a0 a1 p s) = withOperands a0 a1 p (e.run s) := by
  cases e with
  | touchRead tx dst => cases dst <;> rfl
  | _ => rfl

theorem Assign.run_withOperands (a : Assign) :
    a.run (withOperands a0 a1 p s) = withOperands a0 a1 p (a.run s) := by
  cases a <;> rfl

theorem Test.holds_withOperands (t : Test) : t.holds (withOperands a0 a1 p s) = t.holds s := by
  cases t <;> rfl

theorem runStmts_withOperands (k : Nat) (l : List Stmt) (n : Nat) :
    runStmts k l n (withOperands a0 a1 p s) = withOperands a0 a1 p (runStmts k l n s) := by
  induction l generalizing k n s with
  | nil => rw [runStmts_nil, runStmts_nil]; rfl
  | cons st l ih =>
    cases k with
    | succ k => exact ih s k (n + 1)
    | zero =>
      cases st with
      | emit e => rw [runStmts_emit, EmitStmt.run_withOperands]; rfl
      | assign a => rw [runStmts_assign, Assign.run_withOperands, ih, runStmts_assign]
      | skipIf t j => rw [runStmts_skipIf, Test.holds_withOperands, ih, runStmts_skipIf]
      | complete => rfl

/-- The pseudocode reads its operands from the latches (10_state.md R30, 40_framing.md R93). -/
theorem program_withOperands : program (withOperands a0 a1 p s) = program s :=
  program_congr rfl rfl rfl rfl rfl rfl rfl

theorem sequencerStep_withOperands :
    sequencerStep (withOperands a0 a1 p s) = withOperands a0 a1 p (sequencerStep s) := by
  cases hb : busy s with
  | false => simp [hb]
  | true =>
    cases hn : s.seq with
    | none => rw [sequencerStep_at_end hb hn, sequencerStep_at_end (by simpa) (by simpa)]; rfl
    | some n =>
      rw [sequencerStep_running hb hn, sequencerStep_running (by simpa) (by simpa),
        program_withOperands, runStmts_withOperands]

end

/-- Settles O31: changing the operand registers commutes with every sequencer step. -/
theorem operandWritesDoNotReachRunningCommand :
    Obligations.OperandWritesDoNotReachRunningCommand := by
  intro k
  induction k with
  | zero => intros; rfl
  | succ k ih =>
    intro s a0 a1 p
    calc runSequencer k (sequencerStep (withOperands a0 a1 p s))
        = runSequencer k (withOperands a0 a1 p (sequencerStep s)) := by
          rw [sequencerStep_withOperands]
      _ = withOperands a0 a1 p (runSequencer k (sequencerStep s)) := ih _ a0 a1 p

end Sys2Proof.Machine
end

section
/-! Proofs of the statements of 30_encoding.md about the command word: the two round trips (R70 to
R79) and the assembler lines (R86). -/

namespace Sys2Proof

open Sys2Proof.Machine Sys2Proof.Safety

/-! ## The encoder's word is the word of the assembler table (30_encoding.md R86) -/

theorem encode_eq_commandWord (i : Instr) : encode i = commandWord i := by
  cases i <;> simp [encode, commandWord, Instr.opcode, Instr.payload, place, BitVec.or_assoc]

/-- Settles O1. -/
theorem encodedCommandDecodes : Obligations.EncodedCommandDecodes :=
  fun i => ⟨encode_eq_commandWord i, decodeWord_encode i⟩

/-! ## A word is its fields (30_encoding.md R70, R76) -/

theorem place_or_place_eq_place {w : Word} {lo m n : Nat} :
    place (w.extractLsb' (lo + m) n) (lo + m) ||| place (w.extractLsb' lo m) lo =
      place (w.extractLsb' lo (m + n)) lo := by
  apply BitVec.eq_of_getLsbD_eq
  intro j hj
  simp only [BitVec.getLsbD_or, getLsbD_place, BitVec.getLsbD_extractLsb']
  grind

theorem word_eq_fields (w : Word) :
    w = place (opField w) 24 ||| (place (dopField w) 16 |||
      (place (midField w) 8 ||| place (lowField w) 0)) := by
  have hmid : place (midField w) 8 ||| place (lowField w) 0 = place (w.extractLsb' 0 16) 0 :=
    place_or_place_eq_place (lo := 0) (m := 8) (n := 8)
  have hdop : place (dopField w) 16 ||| place (w.extractLsb' 0 16) 0 =
      place (w.extractLsb' 0 24) 0 :=
    place_or_place_eq_place (lo := 0) (m := 16) (n := 8)
  have hop : place (opField w) 24 ||| place (w.extractLsb' 0 24) 0 =
      place (w.extractLsb' 0 32) 0 :=
    place_or_place_eq_place (lo := 0) (m := 24) (n := 8)
  rw [hmid, hdop, hop]
  simp [place]

theorem colorField_eq_bytes (w : Word) :
    place (colorField w) 0 = place (midField w) 8 ||| place (lowField w) 0 :=
  (place_or_place_eq_place (lo := 0) (m := 8) (n := 8)).symm

/-! ## What the decoder accepts (30_encoding.md R78, R79) -/

/-- An accepted word has a legal opcode, operands read from its fields, and reserved bits 0. -/
theorem decodeWord_eq_ok {w : Word} {i : Instr} (h : decodeWord w = .ok i) :
    ∃ mask, reservedMask (opField w) = some mask ∧ operands (opField w) w = some i ∧
      w &&& mask = 0#32 := by
  unfold decodeWord at h
  split at h
  · split at h
    · cases h
      exact ⟨_, ‹_›, ‹_›, ‹_›⟩
    · cases h
  · cases h

theorem opcode_of_operands {op : Byte} {w : Word} {i : Instr} (h : operands op w = some i) :
    op = i.opcode := by
  unfold operands at h
  split at h <;> cases h <;> rfl

/-- A byte of the word that the format reserves is 0 in an accepted word. -/
theorem byte_eq_zero_of_reserved {w mask : Word} (h : w &&& mask = 0#32) {lo : Nat}
    (hmask : mask.extractLsb' lo 8 = 0xFF#8) : w.extractLsb' lo 8 = 0#8 := by
  have hbyte : (w &&& mask).extractLsb' lo 8 = w.extractLsb' lo 8 := by
    rw [BitVec.extractLsb'_and, hmask]
    exact BitVec.and_allOnes
  rw [← hbyte, h, BitVec.extractLsb'_zero]

theorem place_zero (n lo : Nat) : place 0#n lo = 0#32 := by
  simp [place]

/-- The bytes that are no operand of a command are reserved, so nothing of the word is dropped. -/
theorem payload_of_operands {w mask : Word} {i : Instr} (hi : operands i.opcode w = some i)
    (hmask : reservedMask i.opcode = some mask) (hzero : w &&& mask = 0#32) :
    i.payload = place (dopField w) 16 ||| (place (midField w) 8 ||| place (lowField w) 0) := by
  have dop (h : mask.extractLsb' 16 8 = 0xFF#8) : dopField w = 0#8 :=
    byte_eq_zero_of_reserved hzero h
  have mid (h : mask.extractLsb' 8 8 = 0xFF#8) : midField w = 0#8 :=
    byte_eq_zero_of_reserved hzero h
  have low (h : mask.extractLsb' 0 8 = 0xFF#8) : lowField w = 0#8 :=
    byte_eq_zero_of_reserved hzero h
  cases i with
  | nop | bringup | handshake =>
    cases hmask
    simp [Instr.payload, dop rfl, mid rfl, low rfl, place_zero]
  | dcmd =>
    cases hmask; cases hi
    simp [Instr.payload, mid rfl, place_zero]
  | trd =>
    cases hmask; cases hi
    simp [Instr.payload, dop rfl, mid rfl, place_zero]
  | twr =>
    cases hmask; cases hi
    simp [Instr.payload, dop rfl, place_zero]
  | fill =>
    cases hmask; cases hi
    simp [Instr.payload, dop rfl, place_zero, colorField_eq_bytes]

/-- Settles O2: the opcode names the command, its operands are fields of the word, and the other
bytes are reserved. -/
theorem decodedWordEncodesBack : Obligations.DecodedWordEncodesBack := by
  intro w i h
  obtain ⟨mask, hmask, hi, hzero⟩ := decodeWord_eq_ok h
  have hop := opcode_of_operands hi
  rw [hop] at hmask hi
  calc encode i = place (opField w) 24 ||| i.payload := by rw [encode, hop]
    _ = w := by rw [payload_of_operands hi hmask hzero, ← word_eq_fields w]

/-- Settles O3. -/
theorem sampleWordsDecode : Obligations.SampleWordsDecode := by
  unfold Obligations.SampleWordsDecode
  decide

/-! ## Assembler lines (30_encoding.md R86) -/

/-- Settles O4. -/
theorem assemblerLinesEncode : Obligations.AssemblerLinesEncode := by
  simp only [Obligations.AssemblerLinesEncode, encode_eq_commandWord]
  refine ⟨fun dop nparam => ?_, fun taddr => ?_, fun taddr tval => ?_, fun color => ?_, rfl, rfl,
    rfl, fun n hn => ?_, fun n hn => ?_⟩
  · simp [Asm.assemble, commandWord, dop.isLt, nparam.isLt]
  · simp [Asm.assemble, commandWord, taddr.isLt]
  · simp [Asm.assemble, commandWord, taddr.isLt, tval.isLt]
  · simp [Asm.assemble, commandWord, color.isLt]
  · simp [Asm.assemble, Nat.not_lt.mpr hn]
  · simp [Asm.assemble, Nat.not_lt.mpr hn]

end Sys2Proof
end

section
/-! Proofs of the statements of 30_encoding.md about what a command does: the operands acceptance
rejects (R78, R80), the whole transactions of `DCMD`, `TRD`, `TWR` and `FILL` (R81 to R85), and `poll`
(R87). -/

namespace Sys2Proof.Machine

open Sys2Proof.Safety

/-! ## The operand checks (30_encoding.md R78, R80) -/

/-- Bit 7 of an address is the read flag (30_encoding.md R80). -/
theorem addrError_eq (taddr : Byte) :
    addrError taddr = if 0x80#8 ≤ taddr then some .addr else none := by
  have hbit : taddr.getLsbD 7 = decide (0x80#8 ≤ taddr) :=
    (BitVec.msb_eq_getLsbD_last taddr).symm.trans (BitVec.msb_eq_decide taddr)
  simp only [addrError, hbit, decide_eq_true_eq]

theorem exec_operandError {i : Instr} {s : State} {c : ErrCode} (hl : s.cfg.Legal)
    (hb : busy s = false) (h : operandError i s = some c) :
    exec i s = .next { s with err := true, errCode := c } := by
  rw [exec_eq_submit, h, submit_error hl hb, reject]

/-- Settles O9. -/
theorem readFlagAddressRejected : Obligations.ReadFlagAddressRejected := by
  intro s taddr tval hl hb haddr
  have herr : addrError taddr = some .addr := by rw [addrError_eq, if_pos haddr]
  exact ⟨exec_operandError hl hb herr, exec_operandError hl hb herr⟩

/-- Settles O10. -/
theorem oversizedParameterCountRejected : Obligations.OversizedParameterCountRejected :=
  fun _ _ _ hl hb hcount => exec_operandError hl hb (if_pos hcount)

/-! ## `poll` (30_encoding.md R87) -/

theorem statusWord_bit_zero (s : State) : (statusWord s).getLsbD 0 = busy s := by
  rw [busy_eq_bne]
  exact (statusFields s).1

/-- Settles O27: bit 0 of the value read is `BUSY`. -/
theorem pollRepeatsWhileBusy : Obligations.PollRepeatsWhileBusy := by
  intro s
  simp only [hostOp, statusWord_bit_zero]

/-! ## Acceptance of a command whose operands pass -/

theorem acceptResult_eq_accepted (i : Instr) (s : State) : acceptResult i s = accepted i s := by
  cases i <;> simp only [acceptResult, encode_eq_commandWord] <;> rfl

theorem exec_accepted {i : Instr} {s : State} (hl : s.cfg.Legal) (hb : busy s = false)
    (h : operandError i s = none) : exec i s = .next (accepted i s) := by
  rw [exec_eq_submit, h, submit_accept hl hb, acceptResult_eq_accepted]

/-! ## Events one after the other -/

/-- Events one after the other, each with the assignments of its step. -/
def applyEvents (es : List EmitStmt) (s : State) : State := es.foldl (fun t e => e.run t) s

@[simp] theorem applyEvents_nil (s : State) : applyEvents [] s = s := rfl

@[simp] theorem applyEvents_cons (e : EmitStmt) (es : List EmitStmt) (s : State) :
    applyEvents (e :: es) s = applyEvents es (e.run s) := rfl

/-- What a statement emits, without the oracle's answer. -/
def EmitStmt.sent (cfg : Config.Params) : EmitStmt → Sent
  | .spiCfg c => .spiCfg c
  | .dc d => .dc (dcLevel cfg d)
  | .delay us => .delay us
  | .xfer tx => .xfer tx.bytes
  | .blinkXfer tx => .xfer tx.bytes
  | .touchRead tx _ => .xfer tx.bytes
  | .sample => .irqSample

theorem EmitStmt.sentTrace_run (e : EmitStmt) (s : State) :
    sentTrace (e.run s) = sentTrace s ++ [e.sent s.cfg] := by
  cases e with
  | touchRead tx dst => cases dst <;> simp [sentTrace, EmitStmt.run, bindByte, sent, Event.sent]
  | _ => simp [sentTrace, EmitStmt.run, sent, Event.sent]

theorem sentTrace_applyEvents (es : List EmitStmt) (s : State) :
    sentTrace (applyEvents es s) = sentTrace s ++ es.map (EmitStmt.sent s.cfg) := by
  induction es generalizing s with
  | nil => simp
  | cons e es ih => simp [ih, e.sentTrace_run]

/-! ## A command that is events and nothing else -/

/-- A sequencer step at an event. -/
theorem sequencerStep_emit {s : State} {n : Nat} {e : EmitStmt} {l : List Stmt}
    (hb : busy s = true) (hn : s.seq = some n) (h : (program s).drop n = .emit e :: l) :
    sequencerStep s = { e.run s with seq := some (n + 1) } := by
  rw [sequencerStep_running hb hn, h, runStmts_emit]

/-- `seq` is read by no event, and completion overwrites it. -/
theorem complete_applyEvents_seq (es : List EmitStmt) (s : State) (q : Option Nat) :
    complete (applyEvents es { s with seq := q }) = complete (applyEvents es s) := by
  induction es generalizing s with
  | nil => rfl
  | cons e es ih =>
    have hrun : e.run { s with seq := q } = { e.run s with seq := q } := by
      cases e with
      | touchRead tx dst => cases dst <;> rfl
      | _ => rfl
    rw [applyEvents_cons, hrun, ih, applyEvents_cons]

/-- Events to the end of the pseudocode run one per step, and one more step completes. -/
theorem runSequencer_events (es : List EmitStmt) {s : State} {n : Nat} (hb : busy s = true)
    (hn : s.seq = some n) (h : (program s).drop n = es.map .emit ++ [.complete]) :
    runSequencer (es.length + 1) s = complete (applyEvents es s) := by
  induction es generalizing s n with
  | nil =>
    rw [List.map_nil, List.nil_append] at h
    rw [List.length_nil, runSequencer, runSequencer, sequencerStep_running hb hn, h,
      runStmts_complete, applyEvents_nil]
  | cons e es ih =>
    have hstep := sequencerStep_emit hb hn h
    have hop : (sequencerStep s).actOp = s.actOp := by rw [hstep]; exact e.run_actOp s
    have hrest : (program (sequencerStep s)).drop (n + 1) = es.map .emit ++ [.complete] := by
      rw [program_sequencerStep hop, ← List.tail_drop, h]
      rfl
    calc runSequencer (es.length + 1) (sequencerStep s)
        = complete (applyEvents es (sequencerStep s)) :=
          ih (by rw [busy_eq_true_iff] at hb ⊢; rwa [hop]) (by rw [hstep]) hrest
      _ = complete (applyEvents (e :: es) s) := by
          rw [hstep, complete_applyEvents_seq, applyEvents_cons]

/-- A command that is the events `es`, from the write of its word to its completion. -/
theorem command_runs_events (i : Instr) {s : State} (es : List EmitStmt) (hl : s.cfg.Legal)
    (hb : busy s = false) (hi : i ≠ .nop) (he : operandError i s = none)
    (hp : program (accepted i s) = es.map .emit ++ [.complete]) :
    exec i s = .next (accepted i s) ∧
    runSequencer (es.length + 1) (accepted i s) = complete (applyEvents es (accepted i s)) ∧
    sentTrace (complete (applyEvents es (accepted i s))) =
      sentTrace s ++ es.map (EmitStmt.sent s.cfg) := by
  have hbusy : busy (accepted i s) = true := acceptResult_eq_accepted i s ▸ acceptResult_busy hi s
  have hseq : (accepted i s).seq = some 0 := acceptResult_eq_accepted i s ▸ acceptResult_seq hi s
  have hcfg : (accepted i s).cfg = s.cfg := acceptResult_eq_accepted i s ▸ acceptResult_cfg i s
  have htrace : sentTrace (accepted i s) = sentTrace s :=
    congrArg (List.map Event.sent) (acceptResult_eq_accepted i s ▸ acceptResult_trace i s)
  refine ⟨exec_accepted hl hb he, runSequencer_events es hbusy hseq hp, ?_⟩
  rw [← hcfg, ← htrace]
  exact sentTrace_applyEvents es (accepted i s)

/-! ## What events leave that store no answer -/

/-- Whether a statement writes, beside the trace, at most the bus: no variable, no read result and no
count (40_framing.md R94). -/
def EmitStmt.storesNothing : EmitStmt → Bool
  | .spiCfg _ => true
  | .dc _ => true
  | .delay _ => true
  | .xfer _ => true
  | _ => false

/-- How many of the oracle's answers to frames a statement takes. -/
def EmitStmt.frames : EmitStmt → Nat
  | .xfer _ => 1
  | .blinkXfer _ => 1
  | .touchRead _ _ => 1
  | _ => 0

/-- `SPI_CFG` behind an event (10_state.md R38). -/
def EmitStmt.spiCfgAfter (c : Option SpiConfig) : EmitStmt → Option SpiConfig
  | .spiCfg c' => some c'
  | _ => c

/-- `DC_OUT` behind an event (10_state.md R37). -/
def EmitStmt.dcOutAfter (d : DcState) : EmitStmt → DcState
  | .dc d' => d'
  | _ => d

theorem EmitStmt.run_of_storesNothing {e : EmitStmt} (h : e.storesNothing = true) (s : State) :
    e.run s = { s with
      trace := (e.run s).trace, spiCfg := e.spiCfgAfter s.spiCfg, dcOut := e.dcOutAfter s.dcOut
      frameAnswers := s.frameAnswers.drop e.frames, frameDraws := s.frameDraws + e.frames } := by
  cases e with
  | spiCfg | dc | delay => rfl
  | xfer => simp [EmitStmt.run, emitXfer, emit, spiCfgAfter, dcOutAfter, frames]
  | blinkXfer | touchRead | sample => cases h

theorem applyEvents_of_storesNothing {es : List EmitStmt}
    (h : es.all EmitStmt.storesNothing = true) (s : State) :
    applyEvents es s = { s with
      trace := (applyEvents es s).trace
      spiCfg := es.foldl EmitStmt.spiCfgAfter s.spiCfg
      dcOut := es.foldl EmitStmt.dcOutAfter s.dcOut
      frameAnswers := s.frameAnswers.drop (es.map EmitStmt.frames).sum
      frameDraws := s.frameDraws + (es.map EmitStmt.frames).sum } := by
  induction es generalizing s with
  | nil => rfl
  | cons e es ih =>
    rw [List.all_cons, Bool.and_eq_true] at h
    obtain ⟨he, hes⟩ := h
    rw [applyEvents_cons, ih hes, e.run_of_storesNothing he]
    simp [Nat.add_assoc]

theorem complete_applyEvents {es : List EmitStmt} (h : es.all EmitStmt.storesNothing = true)
    (s : State) :
    complete (applyEvents es s) = { s with
      actOp := .none, seq := none, done := true
      trace := (complete (applyEvents es s)).trace
      spiCfg := es.foldl EmitStmt.spiCfgAfter s.spiCfg
      dcOut := es.foldl EmitStmt.dcOutAfter s.dcOut
      frameAnswers := s.frameAnswers.drop (es.map EmitStmt.frames).sum
      frameDraws := s.frameDraws + (es.map EmitStmt.frames).sum } := by
  rw [applyEvents_of_storesNothing h]
  rfl

/-! ## The operands of a command in its word (30_encoding.md R76) -/

theorem fields_commandWord_dcmd (dop nparam : Byte) :
    dopField (commandWord (.dcmd dop nparam)) = dop ∧
      lowField (commandWord (.dcmd dop nparam)) = nparam := by
  rw [← encode_eq_commandWord]
  exact Instr.dcmd.inj (Option.some.inj (operands_encode (.dcmd dop nparam)))

theorem fields_commandWord_trd (taddr : Byte) : lowField (commandWord (.trd taddr)) = taddr := by
  rw [← encode_eq_commandWord]
  exact Instr.trd.inj (Option.some.inj (operands_encode (.trd taddr)))

theorem fields_commandWord_twr (taddr tval : Byte) :
    midField (commandWord (.twr taddr tval)) = taddr ∧
      lowField (commandWord (.twr taddr tval)) = tval := by
  rw [← encode_eq_commandWord]
  exact Instr.twr.inj (Option.some.inj (operands_encode (.twr taddr tval)))

theorem fields_commandWord_fill (color : Half) :
    colorField (commandWord (.fill color)) = color := by
  rw [← encode_eq_commandWord]
  exact Instr.fill.inj (Option.some.inj (operands_encode (.fill color)))

/-! ## The frames of a display command (30_encoding.md R81, 40_framing.md R96) -/

/-- The events of `DISPLAY_FRAME(op, params)` (40_framing.md R96). -/
def displayFrameEmits (cfg : Config.Params) (op : Byte) (params : List Byte) : List EmitStmt :=
  [.dc .cmd, .delay cfg.tDcxUs, .xfer (Burst.once [op])] ++
    match params with
    | [] => []
    | _ :: _ => [.dc .data, .xfer (Burst.once params)]

theorem displayFrame_eq_map_emit (cfg : Config.Params) (op : Byte) (params : List Byte) :
    displayFrame cfg op params = (displayFrameEmits cfg op params).map .emit := by
  cases params <;> rfl

theorem sent_displayFrameEmits (cfg : Config.Params) (op : Byte) (params : List Byte) :
    (displayFrameEmits cfg op params).map (EmitStmt.sent cfg) = frameEvents cfg op params := by
  cases params <;> simp [displayFrameEmits, EmitStmt.sent, frameEvents, dcLevel]

theorem sent_displayConfig (cfg : Config.Params) :
    EmitStmt.sent cfg (.spiCfg (displayConfig cfg)) = displayCfgEvent cfg := rfl

/-! ## `DCMD` (30_encoding.md R81, 40_framing.md R103) -/

theorem length_parameterBytes (w : Word) (p : ParamRegs) (n : Nat) :
    (parameterBytes w p n).length = n := by
  simp [parameterBytes]

theorem paramList_eq_parameterBytes (w : Word) (p : ParamRegs) (n : Nat) :
    paramList w p n = parameterBytes w p n := by
  refine List.ext_getElem (by simp [length_parameterBytes]) fun i hi _ => ?_
  rw [length_paramList] at hi
  by_cases h : i < 32
  · have hbytes : i < p.bytes.length := h
    simp [paramList, parameterBytes, h, hi, List.getElem?_eq_getElem hbytes]
  · obtain ⟨j, rfl⟩ := Nat.exists_eq_add_of_le (Nat.le_of_not_lt h)
    have hmin : min n 32 = 32 := Nat.min_eq_right (by omega)
    simp [paramList, parameterBytes, List.getElem_append_right, hmin]

/-- The events of a `DCMD` with the given parameters. -/
def dcmdEmits (cfg : Config.Params) (dop : Byte) (params : List Byte) : List EmitStmt :=
  .spiCfg (displayConfig cfg) :: displayFrameEmits cfg dop params

theorem program_accepted_dcmd (s : State) (dop nparam : Byte) :
    program (accepted (.dcmd dop nparam) s) =
      (dcmdEmits s.cfg dop
        (parameterBytes (commandWord (.dcmd dop nparam)) s.params nparam.toNat)).map .emit ++
        [.complete] := by
  obtain ⟨hdop, hnparam⟩ := fields_commandWord_dcmd dop nparam
  calc program (accepted (.dcmd dop nparam) s)
      = cfgDisplay s.cfg ++ displayFrame s.cfg (dopField (commandWord (.dcmd dop nparam)))
          (paramList (commandWord (.dcmd dop nparam)) s.params
            (lowField (commandWord (.dcmd dop nparam))).toNat) ++ [.complete] := rfl
    _ = _ := by
      rw [hdop, hnparam, paramList_eq_parameterBytes, displayFrame_eq_map_emit]
      rfl

/-- How long a `DCMD` runs, and what its events leave. -/
theorem dcmdEmits_effect (cfg : Config.Params) (dop : Byte) (params : List Byte) :
    let es := dcmdEmits cfg dop params
    es.all EmitStmt.storesNothing = true ∧ es.length + 1 = (if params = [] then 5 else 7) ∧
      (∀ c, es.foldl EmitStmt.spiCfgAfter c = some (displayConfig cfg)) ∧
      (∀ d, es.foldl EmitStmt.dcOutAfter d = if params = [] then .cmd else .data) ∧
      (es.map EmitStmt.frames).sum = if params = [] then 1 else 2 := by
  cases params <;> exact ⟨rfl, rfl, fun _ => rfl, fun _ => rfl, rfl⟩

/-- Settles O32, by whether there are parameters. -/
theorem dcmdRunsToCompletion : Obligations.DcmdRunsToCompletion := by
  intro s dop nparam hl hb hcount
  have hprogram := program_accepted_dcmd s dop nparam
  have hempty : nparam = 0#8 ↔
      parameterBytes (commandWord (.dcmd dop nparam)) s.params nparam.toNat = [] := by
    rw [← List.length_eq_zero_iff, length_parameterBytes, BitVec.toNat_eq, BitVec.toNat_zero]
  simp only [hempty]
  generalize parameterBytes (commandWord (.dcmd dop nparam)) s.params nparam.toNat = params
    at hprogram ⊢
  obtain ⟨hexec, hrun, hsent⟩ := command_runs_events (.dcmd dop nparam)
    (dcmdEmits s.cfg dop params) hl hb nofun (if_neg (Nat.not_lt.mpr hcount)) hprogram
  obtain ⟨hstores, hlength, hspi, hdc, hframes⟩ := dcmdEmits_effect s.cfg dop params
  have hleft := complete_applyEvents hstores (accepted (.dcmd dop nparam) s)
  rw [hspi, hdc, hframes] at hleft
  refine ⟨_, _, hexec, hlength ▸ hrun, ?_, hleft⟩
  rw [hsent, dcmdEmits, List.map_cons, sent_displayFrameEmits, sent_displayConfig]

/-! ## `TRD` and `TWR` (30_encoding.md R82, R83, 40_framing.md R104, R105) -/

theorem addrError_eq_none {taddr : Byte} (h : taddr < 0x80#8) : addrError taddr = none := by
  rw [addrError_eq, if_neg (BitVec.not_le.mpr h)]

theorem touchConfig_eq (cfg : Config.Params) (m : TouchMode) : touchConfig cfg m =
    { mode := if m = .alt then cfg.modeAlt else cfg.modePref, div := cfg.touchDiv
      cs := cfg.touchCs } := by
  cases m <;> rfl

theorem sent_touchConfig (cfg : Config.Params) (m : TouchMode) :
    EmitStmt.sent cfg (.spiCfg (touchConfig cfg m)) = touchCfgEvent cfg m := by
  rw [touchConfig_eq]
  rfl

/-- Byte 1 of the oracle's next answer. -/
theorem nextRx_byte_one (s : State) : (nextRx s).byte 1 = comingByte s 0 := by
  simp only [nextRx, RxAnswer.byte, comingByte]
  cases s.frameAnswers <;> rfl

/-- The events of a `TRD`. -/
def trdEmits (cfg : Config.Params) (m : TouchMode) (taddr : Byte) : List EmitStmt :=
  [.spiCfg (touchConfig cfg m), .touchRead (touchReadFrame cfg taddr) .discard]

theorem program_accepted_trd (s : State) (taddr : Byte) :
    program (accepted (.trd taddr) s) =
      (trdEmits s.cfg s.touchMode taddr).map .emit ++ [.complete] := by
  conv_rhs => rw [← fields_commandWord_trd taddr]
  rfl

/-- Settles O33. -/
theorem trdRunsToCompletion : Obligations.TrdRunsToCompletion := by
  intro s taddr hl hb haddr
  obtain ⟨hexec, hrun, hsent⟩ := command_runs_events (.trd taddr)
    (trdEmits s.cfg s.touchMode taddr) hl hb nofun (addrError_eq_none haddr)
    (program_accepted_trd s taddr)
  have htrace : (complete (applyEvents (trdEmits s.cfg s.touchMode taddr)
      (accepted (.trd taddr) s))).trace =
      s.trace ++ [.spiCfg (touchConfig s.cfg s.touchMode)] ++
        [.xfer (touchReadFrame s.cfg taddr) (nextRx s)] := rfl
  refine ⟨_, _, _, _, _, hexec, hrun, ?_, htrace.trans (List.append_assoc ..),
    Event.rx_xfer_length _ _, ?_, ?_⟩
  · rw [hsent, trdEmits, List.map_cons, sent_touchConfig]
    simp [EmitStmt.sent, touchReadFrame, readEvent]
  · exact Event.rx_xfer_getElem? (nextRx s) (by rw [touchReadFrame_length]; decide)
  · rw [← nextRx_byte_one, ← touchConfig_eq, List.drop_one]
    rfl

/-- The events of a `TWR`. -/
def twrEmits (cfg : Config.Params) (m : TouchMode) (taddr tval : Byte) : List EmitStmt :=
  [.spiCfg (touchConfig cfg m), .xfer (touchWriteFrame taddr tval)]

theorem program_accepted_twr (s : State) (taddr tval : Byte) :
    program (accepted (.twr taddr tval) s) =
      (twrEmits s.cfg s.touchMode taddr tval).map .emit ++ [.complete] := by
  obtain ⟨hmid, hlow⟩ := fields_commandWord_twr taddr tval
  calc program (accepted (.twr taddr tval) s)
      = cfgTouch s.cfg s.touchMode ++ touchWrite (midField (commandWord (.twr taddr tval)))
          (lowField (commandWord (.twr taddr tval))) ++ [.complete] := rfl
    _ = _ := by rw [hmid, hlow]; rfl

/-- Settles O34. -/
theorem twrRunsToCompletion : Obligations.TwrRunsToCompletion := by
  intro s taddr tval hl hb haddr
  obtain ⟨hexec, hrun, hsent⟩ := command_runs_events (.twr taddr tval)
    (twrEmits s.cfg s.touchMode taddr tval) hl hb nofun (addrError_eq_none haddr)
    (program_accepted_twr s taddr tval)
  refine ⟨_, _, hexec, hrun, ?_, (complete_applyEvents rfl _).trans ?_⟩
  · rw [hsent, twrEmits, List.map_cons, sent_touchConfig]
    simp [EmitStmt.sent, touchWriteFrame, writeEvent]
  · rw [← touchConfig_eq]
    rfl

/-! ## `FILL` (30_encoding.md R84, R85, 42_fill.md R140 to R144) -/

/-- The 17-bit extent of a window that is not inverted does not wrap (42_fill.md R143). -/
theorem toNat_extent {w : Word} (h : startCoord w ≤ endCoord w) : (extent w).toNat = span w := by
  have hspan : span w = (endCoord w).toNat - (startCoord w).toNat + 1 := rfl
  have hle : (startCoord w).toNat ≤ (endCoord w).toNat := h
  have hlt := (endCoord w).isLt
  rw [hspan, extent]
  simp only [BitVec.toNat_add, BitVec.toNat_sub, BitVec.toNat_setWidth, BitVec.toNat_ofNat]
  omega

theorem span_le (w : Word) : span w ≤ 2 ^ 16 := by
  have hspan : span w = (endCoord w).toNat - (startCoord w).toNat + 1 := rfl
  have hlt := (endCoord w).isLt
  omega

/-- Nor does the 33-bit pixel count (42_fill.md R143). -/
theorem toNat_pixelCount {s : State} (h₀ : startCoord s.lArg0 ≤ endCoord s.lArg0)
    (h₁ : startCoord s.lArg1 ≤ endCoord s.lArg1) :
    (pixelCount s).toNat = span s.lArg0 * span s.lArg1 := by
  have harea : span s.lArg0 * span s.lArg1 ≤ 2 ^ 16 * 2 ^ 16 :=
    Nat.mul_le_mul (span_le _) (span_le _)
  have hx := span_le s.lArg0
  have hy := span_le s.lArg1
  rw [pixelCount, BitVec.toNat_mul, BitVec.toNat_setWidth, BitVec.toNat_setWidth, toNat_extent h₀,
    toNat_extent h₁, Nat.mod_eq_of_lt (a := span s.lArg0) (by omega),
    Nat.mod_eq_of_lt (a := span s.lArg1) (by omega), Nat.mod_eq_of_lt (by omega)]

/-- The events of a `FILL` for the given window and pixel stream. -/
def fillEmits (cfg : Config.Params) (arg0 arg1 : Word) (stream : Burst) : List EmitStmt :=
  .spiCfg (displayConfig cfg) ::
    (displayFrameEmits cfg cfg.opCaset (windowBytes arg0) ++
      displayFrameEmits cfg cfg.opRaset (windowBytes arg1) ++
      displayFrameEmits cfg cfg.opRamwr [] ++ [.dc .data, .xfer stream])

/-- How long a `FILL` runs, and what its events leave. -/
theorem fillEmits_effect (cfg : Config.Params) (arg0 arg1 : Word) (stream : Burst) :
    let es := fillEmits cfg arg0 arg1 stream
    es.all EmitStmt.storesNothing = true ∧ es.length + 1 = 17 ∧
      (∀ c, es.foldl EmitStmt.spiCfgAfter c = some (displayConfig cfg)) ∧
      (∀ d, es.foldl EmitStmt.dcOutAfter d = .data) ∧ (es.map EmitStmt.frames).sum = 6 := by
  simp [fillEmits, displayFrameEmits, windowBytes, be16, EmitStmt.storesNothing,
    EmitStmt.spiCfgAfter, EmitStmt.dcOutAfter, EmitStmt.frames]

theorem program_accepted_fill (s : State) (color : Half) :
    program (accepted (.fill color) s) =
      (fillEmits s.cfg s.arg0 s.arg1 (pixelStream (accepted (.fill color) s))).map .emit ++
        [.complete] := rfl

/-- The stream is one frame of as many color words as the window has pixels (42_fill.md R144). -/
theorem bytes_pixelStream_accepted_fill {s : State} (color : Half)
    (h₀ : startCoord s.arg0 ≤ endCoord s.arg0) (h₁ : startCoord s.arg1 ≤ endCoord s.arg1) :
    (pixelStream (accepted (.fill color) s)).bytes =
      (List.replicate (span s.arg0 * span s.arg1) (bigEndian color)).flatten := by
  have hcolor : colorField (accepted (.fill color) s).lCmd = color := fields_commandWord_fill color
  have hcount : (pixelCount (accepted (.fill color) s)).toNat = span s.arg0 * span s.arg1 :=
    toNat_pixelCount h₀ h₁
  rw [Burst.bytes, pixelStream, hcolor, hcount]
  rfl

/-- Settles O35: the counts of the window do not wrap. -/
theorem fillRunsToCompletion : Obligations.FillRunsToCompletion := by
  intro s color hl hb h₀ h₁
  have herr : operandError (.fill color) s = none :=
    if_neg (not_or.mpr ⟨BitVec.not_lt.mpr h₀, BitVec.not_lt.mpr h₁⟩)
  obtain ⟨hexec, hrun, hsent⟩ := command_runs_events (.fill color)
    (fillEmits s.cfg s.arg0 s.arg1 (pixelStream (accepted (.fill color) s))) hl hb nofun herr
    (program_accepted_fill s color)
  obtain ⟨hstores, hlength, hspi, hdc, hframes⟩ :=
    fillEmits_effect s.cfg s.arg0 s.arg1 (pixelStream (accepted (.fill color) s))
  have hleft := complete_applyEvents hstores (accepted (.fill color) s)
  rw [hspi, hdc, hframes] at hleft
  refine ⟨_, _, hexec, hlength ▸ hrun, ?_, hleft⟩
  rw [hsent, fillEmits]
  simp only [List.map_cons, List.map_append, sent_displayConfig, sent_displayFrameEmits]
  simp only [EmitStmt.sent, bytes_pixelStream_accepted_fill color h₀ h₁]
  rfl

end Sys2Proof.Machine
end

section
/-! Proofs of the statements of 40_framing.md: the checks of a command word and their order (R90, R91),
acceptance (R92, R102), what a sequencer step does and that a command ends (R94, R95, R106, R107). -/

namespace Sys2Proof.Machine

open Sys2Proof.Safety

/-! ## The operand checks and the reserved bits (40_framing.md R90) -/

theorem operandError_eq_none_of_operandsOk {i : Instr} {s : State} (h : operandsOk i s = true) :
    operandError i s = none := by
  cases i with
  | dcmd dop nparam => exact if_neg (Nat.not_lt.mpr (of_decide_eq_true h))
  | trd taddr | twr taddr tval => exact if_neg (by simpa [operandsOk] using h)
  | fill color =>
    simp only [operandsOk, Bool.and_eq_true, decide_eq_true_eq] at h
    obtain ⟨h₀, h₁⟩ := h
    exact if_neg (not_or.mpr ⟨BitVec.not_lt.mpr h₀, BitVec.not_lt.mpr h₁⟩)
  | nop | bringup | handshake => rfl

/-- The bits of a field, the others masked out, are 0 exactly when the field is. -/
theorem and_place_allOnes_eq_zero_iff {w : Word} {lo n : Nat} (h : lo + n ≤ 32) :
    w &&& place (BitVec.allOnes n) lo = 0#32 ↔ w.extractLsb' lo n = 0#n := by
  have hmask : w &&& place (BitVec.allOnes n) lo = place (w.extractLsb' lo n) lo := by
    apply BitVec.eq_of_getLsbD_eq
    intro j hj
    simp only [BitVec.getLsbD_and, getLsbD_place, BitVec.getLsbD_allOnes,
      BitVec.getLsbD_extractLsb']
    grind
  rw [hmask]
  constructor
  · intro hzero
    rw [← extractLsb'_place_same (w.extractLsb' lo n) h, hzero, BitVec.extractLsb'_zero]
  · intro hzero
    rw [hzero, place_zero]

theorem reservedMask_eq_none {op : Byte}
    (h₀ : ¬(op = 0x00#8 ∨ op = 0x05#8 ∨ op = 0x06#8)) (h₁ : op ≠ 0x01#8) (h₂ : op ≠ 0x02#8)
    (h₃ : op ≠ 0x03#8) (h₄ : op ≠ 0x04#8) : reservedMask op = none := by
  unfold reservedMask
  split <;> simp_all

/-! ## The error of a word written to `CMD` (40_framing.md R90) -/

/-- The error of a word written to an idle block, as the model finds it: `E_ILLEGAL` for a word that
is no command, else its command's operand check. -/
def wordError (w : Word) (s : State) : Option ErrCode :=
  match decodeWord w with
  | .ok i => operandError i s
  | .error _ => some .illegal

theorem wordError_of_reservedMask_none {w : Word} (h : reservedMask (opField w) = none) (s : State) :
    wordError w s = some .illegal := by
  simp [wordError, decodeWord, h]

/-- An opcode whose format reserves one field: `E_ILLEGAL` unless the field is 0, then the operand
check. -/
theorem wordError_of_reserved_field {w : Word} {op : Byte} {i : Instr} {lo n : Nat} (s : State)
    (hop : opField w = op) (hlo : lo + n ≤ 32)
    (hmask : reservedMask op = some (place (BitVec.allOnes n) lo)) (hi : operands op w = some i) :
    wordError w s = if w.extractLsb' lo n ≠ 0#n then some .illegal else operandError i s := by
  subst hop
  simp only [wordError, decodeWord, hmask, hi, and_place_allOnes_eq_zero_iff hlo, ne_eq, ite_not]
  by_cases h : w.extractLsb' lo n = 0#n
  · rw [if_pos h, if_pos h]
  · rw [if_neg h, if_neg h]

theorem addrError_lowField (w : Word) :
    addrError (lowField w) = if w.getLsbD 7 then some .addr else none := by
  simp [addrError, lowField]

theorem addrError_midField (w : Word) :
    addrError (midField w) = if w.getLsbD 15 then some .addr else none := by
  simp [addrError, midField]

/-- The checks of R90, read off the word's bits, are the model's, in the same order. -/
theorem acceptanceError_eq_wordError (w : Word) (s : State) :
    acceptanceError w s = wordError w s := by
  have hfield : w.extractLsb' 24 8 = opField w := rfl
  simp only [acceptanceError, hfield]
  split
  case isTrue hop =>
    obtain hop | hop | hop := hop <;>
      exact (wordError_of_reserved_field (lo := 0) (n := 24) s hop (by omega) rfl rfl).symm
  case isFalse hbare =>
  split
  case isTrue hop =>
    exact (wordError_of_reserved_field (lo := 8) (n := 8) s hop (by omega) rfl rfl).symm
  case isFalse hdcmd =>
  split
  case isTrue hop =>
    rw [← addrError_lowField]
    exact (wordError_of_reserved_field (lo := 8) (n := 16) s hop (by omega) rfl rfl).symm
  case isFalse htrd =>
  split
  case isTrue hop =>
    rw [← addrError_midField]
    exact (wordError_of_reserved_field (lo := 16) (n := 8) s hop (by omega) rfl rfl).symm
  case isFalse htwr =>
  split
  case isTrue hop =>
    exact (wordError_of_reserved_field (lo := 16) (n := 8) s hop (by omega) rfl rfl).symm
  case isFalse hfill =>
    exact (wordError_of_reservedMask_none (reservedMask_eq_none hbare hdcmd htrd htwr hfill) s).symm

theorem submitWord_busy (w : Word) {s : State} (hl : s.cfg.Legal) (hb : busy s = true) :
    submitWord w s = .next { s with err := true, errCode := .busy } := by
  cases h : decodeWord w with
  | ok i => rw [submitWord_of_decode h, exec_eq_submit, submit_busy hl hb, reject]
  | error _ => simp only [submitWord, h, submit_busy hl hb, reject]

theorem submitWord_wordError {w : Word} {s : State} {c : ErrCode} (hl : s.cfg.Legal)
    (hb : busy s = false) (h : wordError w s = some c) :
    submitWord w s = .next { s with err := true, errCode := c } := by
  cases hd : decodeWord w with
  | ok i =>
    simp only [wordError, hd] at h
    rw [submitWord_of_decode hd, exec_operandError hl hb h]
  | error _ =>
    simp only [wordError, hd, Option.some.injEq] at h
    simp only [submitWord, hd, submit_error hl hb, reject, h]

/-- A word without an error is the word of a command whose operands pass, and is accepted. -/
theorem submitWord_accepted {w : Word} {s : State} (hl : s.cfg.Legal) (hb : busy s = false)
    (h : wordError w s = none) :
    ∃ i, commandWord i = w ∧ submitWord w s = .next (accepted i s) := by
  cases hd : decodeWord w with
  | ok i =>
    simp only [wordError, hd] at h
    exact ⟨i, by rw [← encode_eq_commandWord, decodedWordEncodesBack w i hd],
      by rw [submitWord_of_decode hd, exec_accepted hl hb h]⟩
  | error _ => simp [wordError, hd] at h

/-- Settles O5: the checks are those of the model, and each of its outcomes is one of `submitWord`. -/
theorem commandWordChecks : Obligations.CommandWordChecks := by
  intro s w hl
  simp only [hostOp_write_cmd, acceptanceError_eq_wordError]
  cases hb : busy s with
  | true => exact submitWord_busy w hl hb
  | false =>
    cases he : wordError w s with
    | some code => exact submitWord_wordError hl hb he
    | none => exact submitWord_accepted hl hb he

/-! ## Acceptance (40_framing.md R92, R102) -/

/-- The first sequencer step of every command emits an event (40_framing.md R92). -/
theorem sequencerStep_first_trace {s : State} (hb : busy s = true) (hn : s.seq = some 0) :
    ∃ e, (sequencerStep s).trace = s.trace ++ [e] := by
  by_cases hop : s.actOp = .handshake
  · exact ⟨_, by rw [sequencerStep_handshake_first hop hn]; rfl⟩
  · obtain ⟨l, hl⟩ := program_head hb hop
    exact ⟨_, by rw [sequencerStep_running hb hn, hl]; rfl⟩

/-- Settles O6: acceptance leaves the trace, and a started command's first step emits. -/
theorem acceptanceEffect : Obligations.AcceptanceEffect := by
  intro s i hl hb hok
  refine ⟨exec_accepted hl hb (operandError_eq_none_of_operandsOk hok), ?_⟩
  rw [← acceptResult_eq_accepted]
  refine ⟨acceptResult_trace i s, fun hi => ?_⟩
  simpa using sequencerStep_first_trace (acceptResult_busy hi s) (acceptResult_seq hi s)

/-- Settles O7: the accepted state is idle, and an idle block has no sequencer step. -/
theorem nopCompletesAtAcceptance : Obligations.NopCompletesAtAcceptance := by
  intro s hl hb
  have hidle : busy (accepted .nop s) = false := hb
  exact ⟨accepted .nop s, exec_accepted hl hb rfl, rfl, rfl, hidle, rfl, rfl, rfl, rfl,
    sequencerStep_idle hidle⟩

/-! ## A placed word (40_framing.md R90) -/

theorem decodeWord_of_decodeTableWord {nbits w : Nat} {i : Instr}
    (h : decodeTableWord nbits w = some i) :
    decodeWord (BitVec.ofNat 32 (w % 2 ^ nbits)) = .ok i := by
  unfold decodeTableWord at h
  split at h <;> cases h
  assumption

/-- Settles O14: placing gives the host the next turn and the write as its next access. -/
theorem placedWordRunsNext : Obligations.PlacedWordRunsNext := fun s w i hl h =>
  stepRunsDecodedCommand (s.withFetchWord 32 w) _ s.hostQueue i hl rfl rfl
    (decodeWord_of_decodeTableWord h)

/-! ## The steps of a running command (40_framing.md R94, R95) -/

@[simp] theorem applyAssigns_done (as : List Assign) (s : State) :
    (applyAssigns as s).done = s.done := by
  rw [applyAssigns_frame]

@[simp] theorem EmitStmt.run_done (e : EmitStmt) (s : State) : (e.run s).done = s.done := by
  rw [e.run_frame]

/-- Settles O28, by what a sequencer step can answer. -/
theorem sequencerEmitsOrCompletes : Obligations.SequencerEmitsOrCompletes := by
  intro s
  rcases sequencerStep_cases s with ⟨hb, h⟩ | ⟨hb, ⟨as, e, n, m, -, -, h⟩ | ⟨as, h⟩⟩
  · rw [if_neg (by simp [hb]), h]
  · rw [if_pos hb]
    obtain ⟨ev, hev⟩ := e.run_trace (applyAssigns as s)
    refine .inl ⟨ev, m, ?_⟩
    simpa [h] using hev
  · rw [if_pos hb]
    exact .inr (by simp [h])

/-- From statement `n` a command completes within as many steps as statements remain, since each
step that does not complete moves `seq` forward (40_framing.md R106). -/
theorem completes_within_remaining {s : State} {n r : Nat} (hseq : seqOk s = true)
    (hb : busy s = true) (hn : s.seq = some n) (hr : (program s).length ≤ n + r) :
    ∃ k, k ≤ r ∧ busy (runSequencer k s) = false ∧ (runSequencer k s).done = true := by
  induction r generalizing s n with
  | zero =>
    simp only [seqOk, hn, Bool.and_eq_true, decide_eq_true_eq] at hseq
    omega
  | succ r ih =>
    have hstep := sequencerEmitsOrCompletes s
    rw [if_pos hb] at hstep
    obtain ⟨-, m, -, hm, hop, -⟩ | ⟨-, -, hop, hdone⟩ := hstep
    · have hlt : n < m := by simpa [hm] using sequencerMovesForward s n hb hn
      obtain ⟨k, hk, hend⟩ := ih (seqOk_sequencerStep hseq)
        (by rw [busy_eq_true_iff] at hb ⊢; rwa [hop]) hm
        (by rw [program_sequencerStep hop]; omega)
      exact ⟨k + 1, Nat.succ_le_succ hk, hend⟩
    · exact ⟨1, by omega, (busy_eq_false_iff _).mpr hop, hdone⟩

/-- Settles O41: where the command stands, no more statements remain than it has. -/
theorem runningCommandCompletes : Obligations.RunningCommandCompletes := by
  rintro s ⟨-, hseq, -⟩ hb
  cases hn : s.seq with
  | none => simp [seqOk, hn, hb] at hseq
  | some n => exact completes_within_remaining hseq hb hn (Nat.le_add_left _ _)

/-! ## The pixel count (40_framing.md R107, 42_fill.md R143) -/

/-- Settles O36: neither the extents nor their product wrap. -/
theorem pixelCountIsWindowArea : Obligations.PixelCountIsWindowArea := by
  intro s h₀ h₁
  have hstream : (pixelStream s).bytes.length = 2 * (pixelCount s).toNat := by
    rw [Burst.length_bytes, Nat.mul_comm]; rfl
  rw [hstream, toNat_pixelCount h₀ h₁, toNat_extent h₀, toNat_extent h₁]
  have harea : span s.lArg0 * span s.lArg1 ≤ 2 ^ 16 * 2 ^ 16 :=
    Nat.mul_le_mul (span_le _) (span_le _)
  exact ⟨rfl, rfl, Nat.succ_pos _, span_le _, Nat.succ_pos _, span_le _, harea⟩

end Sys2Proof.Machine
end

section
/-! Proofs of the statements of 41_bringup.md: a whole `BRINGUP` for every `INIT_TABLE` (R120, R122,
R123, R211), and the events of each `BU_STATE` (R121). -/

namespace Sys2Proof.Machine

open Sys2Proof.Safety

/-! ## Straight-line pseudocode: events and assignments, without a test or a completion -/

/-- Whether a statement is an event or an assignment. -/
def Stmt.straight : Stmt → Bool
  | .emit _ => true
  | .assign _ => true
  | _ => false

/-- The effect of an event or an assignment. -/
def Stmt.run (st : Stmt) (s : State) : State :=
  match st with
  | .emit e => e.run s
  | .assign a => a.run s
  | _ => s

/-- Statements one after the other. -/
def applyStmts (l : List Stmt) (s : State) : State := l.foldl (fun t st => st.run t) s

@[simp] theorem applyStmts_nil (s : State) : applyStmts [] s = s := rfl

@[simp] theorem applyStmts_emit (e : EmitStmt) (l : List Stmt) (s : State) :
    applyStmts (.emit e :: l) s = applyStmts l (e.run s) := rfl

@[simp] theorem applyStmts_assign (a : Assign) (l : List Stmt) (s : State) :
    applyStmts (.assign a :: l) s = applyStmts l (a.run s) := rfl

/-- The event of a statement. -/
def Stmt.event? : Stmt → Option EmitStmt
  | .emit e => some e
  | _ => none

/-- The assignment of a statement. -/
def Stmt.assign? : Stmt → Option Assign
  | .assign a => some a
  | _ => none

/-- The events of a list of statements, in order. -/
def eventsOf (l : List Stmt) : List EmitStmt := l.filterMap Stmt.event?

/-- The assignments of a list of statements, in order. -/
def assignsOf (l : List Stmt) : List Assign := l.filterMap Stmt.assign?

@[simp] theorem eventsOf_nil : eventsOf [] = [] := rfl

@[simp] theorem eventsOf_emit (e : EmitStmt) (l : List Stmt) :
    eventsOf (.emit e :: l) = e :: eventsOf l := rfl

@[simp] theorem eventsOf_assign (a : Assign) (l : List Stmt) :
    eventsOf (.assign a :: l) = eventsOf l := rfl

@[simp] theorem eventsOf_append (l l' : List Stmt) :
    eventsOf (l ++ l') = eventsOf l ++ eventsOf l' := List.filterMap_append

@[simp] theorem eventsOf_map_emit (es : List EmitStmt) : eventsOf (es.map .emit) = es := by
  induction es with
  | nil => rfl
  | cons e es ih => rw [List.map_cons, eventsOf_emit, ih]

@[simp] theorem assignsOf_nil : assignsOf [] = [] := rfl

@[simp] theorem assignsOf_emit (e : EmitStmt) (l : List Stmt) :
    assignsOf (.emit e :: l) = assignsOf l := rfl

@[simp] theorem assignsOf_assign (a : Assign) (l : List Stmt) :
    assignsOf (.assign a :: l) = a :: assignsOf l := rfl

@[simp] theorem assignsOf_append (l l' : List Stmt) :
    assignsOf (l ++ l') = assignsOf l ++ assignsOf l' := List.filterMap_append

@[simp] theorem assignsOf_map_emit (es : List EmitStmt) : assignsOf (es.map .emit) = [] := by
  induction es with
  | nil => rfl
  | cons e es ih => rw [List.map_cons, assignsOf_emit, ih]

@[simp] theorem straight_map_emit (es : List EmitStmt) :
    (es.map Stmt.emit).all Stmt.straight = true := by
  simp [Stmt.straight]

/-! ## Running straight-line pseudocode -/

/-- The pseudocode of the running command is `l` from statement `n` on. -/
def StandsAt (s : State) (n : Nat) (l : List Stmt) : Prop :=
  busy s = true ∧ (program s).drop n = l

theorem StandsAt.emit {s : State} {n : Nat} {e : EmitStmt} {l : List Stmt}
    (h : StandsAt s n (.emit e :: l)) : StandsAt (e.run s) (n + 1) l := by
  obtain ⟨hb, hp⟩ := h
  have hprogram : program (e.run s) = program s := by
    rw [e.run_frame]; exact program_congr rfl rfl rfl rfl rfl rfl rfl
  refine ⟨by rw [busy_eq_true_iff] at hb ⊢; rwa [e.run_actOp], ?_⟩
  rw [hprogram, ← List.tail_drop, hp, List.tail_cons]

/-- An assignment leaves the pseudocode it stands in: only a handshake writes `TOUCH_MODE`, and its
pseudocode does not depend on it. -/
theorem program_run_assign {a : Assign} {s : State} (h : .assign a ∈ program s) :
    program (a.run s) = program s := by
  have hop := assign_mem_program h
  cases a with
  | touchMode m => simp only [program, Assign.run, hop, Assign.owner]; rfl
  | _ => rfl

theorem StandsAt.assign {s : State} {n : Nat} {a : Assign} {l : List Stmt}
    (h : StandsAt s n (.assign a :: l)) : StandsAt (a.run s) (n + 1) l := by
  obtain ⟨hb, hp⟩ := h
  have hmem : .assign a ∈ program s := List.mem_of_mem_drop (hp ▸ List.mem_cons_self)
  refine ⟨by rw [a.run_frame]; exact hb, ?_⟩
  rw [program_run_assign hmem, ← List.tail_drop, hp, List.tail_cons]

theorem EmitStmt.run_withSeq (e : EmitStmt) (s : State) (q : Option Nat) :
    e.run { s with seq := q } = { e.run s with seq := q } := by
  cases e with
  | touchRead tx dst => cases dst <;> rfl
  | _ => rfl

/-- A step over a list of statements does not read `seq`, and overwrites it. -/
theorem runStmts_withSeq (k : Nat) (l : List Stmt) (n : Nat) (s : State) (q : Option Nat) :
    runStmts k l n { s with seq := q } = runStmts k l n s := by
  induction l generalizing k n s with
  | nil => cases k <;> rfl
  | cons st l ih =>
    cases k with
    | succ k => exact ih k (n + 1) s
    | zero =>
      cases st with
      | emit e => rw [runStmts_emit, e.run_withSeq, runStmts_emit]
      | assign a =>
        rw [runStmts_assign, runStmts_assign, ← ih 0 (n + 1) (a.run s)]
        cases a <;> rfl
      | skipIf t j =>
        rw [runStmts_skipIf, runStmts_skipIf, ih]
        cases t <;> rfl
      | complete => rfl

/-- The step behind an event. -/
theorem sequencerStep_behind_event {s : State} {n : Nat} {e : EmitStmt} {l : List Stmt}
    (h : StandsAt s n (.emit e :: l)) :
    sequencerStep { e.run s with seq := some (n + 1) } = runStmts 0 l (n + 1) (e.run s) := by
  obtain ⟨hb, hp⟩ := h.emit
  rw [← hp, ← runStmts_withSeq _ _ _ (e.run s) (some (n + 1))]
  exact sequencerStep_running (s := { e.run s with seq := some (n + 1) }) hb rfl

/-- From the step that begins straight-line pseudocode, its events run one per step, and the step
behind the last of them begins what follows. -/
theorem runSequencer_straight {l rest : List Stmt} (hl : l.all Stmt.straight = true) {s : State}
    {n : Nat} (h : StandsAt s n (l ++ rest)) :
    runSequencer (eventsOf l).length (runStmts 0 (l ++ rest) n s) =
      runStmts 0 rest (n + l.length) (applyStmts l s) := by
  induction l generalizing s n with
  | nil => rfl
  | cons st l ih =>
    rw [List.all_cons, Bool.and_eq_true] at hl
    obtain ⟨hst, hl⟩ := hl
    rw [List.cons_append] at h ⊢
    rw [List.length_cons, Nat.add_comm l.length 1, ← Nat.add_assoc]
    cases st with
    | emit e =>
      rw [eventsOf_emit, List.length_cons, runStmts_emit, runSequencer,
        sequencerStep_behind_event h]
      exact ih hl h.emit
    | assign a => exact ih hl h.assign
    | skipIf | complete => cases hst

/-- The log of `k + 1` sequencer steps, of which the first leads from a state with the trace `before`
to `s`. -/
def logFrom (before : List Event) (k : Nat) (s : State) : List (List Sent × BuState × HsState) :=
  ((s.trace.drop before.length).map Event.sent, s.buState, s.hsState) :: runLog k s

theorem runLog_succ (k : Nat) (s : State) :
    runLog (k + 1) s = logFrom s.trace k (sequencerStep s) := rfl

@[simp] theorem length_runLog (k : Nat) (s : State) : (runLog k s).length = k := by
  induction k generalizing s with
  | zero => rfl
  | succ k ih => rw [runLog, List.length_cons, ih]

/-- `BU_STATE` behind an assignment (10_state.md R32). -/
def Assign.buStateAfter (b : BuState) : Assign → BuState
  | .buState b' => b'
  | _ => b

/-- `HS_STATE` behind an assignment (10_state.md R34). -/
def Assign.hsStateAfter (h : HsState) : Assign → HsState
  | .hsState h' => h'
  | _ => h

/-- The events of straight-line pseudocode with the `BU_STATE` and `HS_STATE` each is emitted in. -/
def statusLog (cfg : Config.Params) :
    List Stmt → BuState → HsState → List (List Sent × BuState × HsState)
  | .emit e :: l, b, h => ([e.sent cfg], b, h) :: statusLog cfg l b h
  | .assign a :: l, b, h => statusLog cfg l (a.buStateAfter b) (a.hsStateAfter h)
  | _, _, _ => []

theorem EmitStmt.sent_run_newTrace (e : EmitStmt) (s : State) :
    ((e.run s).trace.drop s.trace.length).map Event.sent = [e.sent s.cfg] := by
  have h : (e.run s).trace.map Event.sent = s.trace.map Event.sent ++ [e.sent s.cfg] :=
    e.sentTrace_run s
  rw [List.map_drop, h, ← List.length_map Event.sent, List.drop_left]

theorem statusLog_assign (a : Assign) (l : List Stmt) (s : State) :
    statusLog s.cfg (.assign a :: l) s.buState s.hsState =
      statusLog (a.run s).cfg l (a.run s).buState (a.run s).hsState := by
  cases a <;> rfl

/-- The log of straight-line pseudocode, and of the run behind it. -/
theorem logFrom_straight {l rest : List Stmt} (hl : l.all Stmt.straight = true) {s : State}
    {n : Nat} (h : StandsAt s n (l ++ rest)) (k : Nat) :
    logFrom s.trace ((eventsOf l).length + k) (runStmts 0 (l ++ rest) n s) =
      statusLog s.cfg l s.buState s.hsState ++
        logFrom (applyStmts l s).trace k (runStmts 0 rest (n + l.length) (applyStmts l s)) := by
  induction l generalizing s n with
  | nil => rw [eventsOf_nil, List.length_nil, Nat.zero_add]; rfl
  | cons st l ih =>
    rw [List.all_cons, Bool.and_eq_true] at hl
    obtain ⟨hst, hl⟩ := hl
    rw [List.cons_append] at h ⊢
    rw [List.length_cons, Nat.add_comm l.length 1, ← Nat.add_assoc]
    cases st with
    | emit e =>
      have hlater := ih hl h.emit
      rw [e.run_cfg, e.run_buState, e.run_hsState] at hlater
      rw [eventsOf_emit, List.length_cons, Nat.add_right_comm, runStmts_emit, logFrom, runLog_succ,
        sequencerStep_behind_event h, hlater, e.run_buState, e.run_hsState, e.sent_run_newTrace]
      rfl
    | assign a =>
      have htrace : (a.run s).trace = s.trace := applyAssigns_trace [a] s
      rw [statusLog_assign, ← htrace]
      exact ih hl h.assign
    | skipIf | complete => cases hst

/-! ## A command that is straight-line pseudocode -/

section
variable {s : State} {l : List Stmt} (hl : l.all Stmt.straight = true) (hb : busy s = true)
  (hseq : s.seq = some 0) (hp : program s = l ++ [.complete])
include hl hb hseq hp

/-- One step per event, and one more that completes. -/
theorem runSequencer_straight_command :
    runSequencer ((eventsOf l).length + 1) s = complete (applyStmts l s) := by
  rw [runSequencer, sequencerStep_running hb hseq, List.drop_zero, hp]
  exact runSequencer_straight (n := 0) hl ⟨hb, hp⟩

/-- The log of the events, and an entry without an event for the completion. -/
theorem runLog_straight_command :
    runLog ((eventsOf l).length + 1) s = statusLog s.cfg l s.buState s.hsState ++
      [([], (applyStmts l s).buState, (applyStmts l s).hsState)] := by
  rw [runLog_succ, sequencerStep_running hb hseq, List.drop_zero, hp]
  refine (logFrom_straight (rest := [.complete]) (n := 0) hl ⟨hb, hp⟩ 0).trans ?_
  simp [logFrom, runLog]

end

/-! ## What the assignments of a bring-up leave -/

theorem EmitStmt.run_assign_comm {a : Assign} (h : a.owner = .bringup) (e : EmitStmt) (s : State) :
    e.run (a.run s) = a.run (e.run s) := by
  cases a with
  | buState | buIdx | buDone =>
    cases e with
    | touchRead tx dst => cases dst <;> rfl
    | _ => rfl
  | _ => cases h

theorem applyEvents_assign_comm {a : Assign} (h : a.owner = .bringup) (es : List EmitStmt)
    (s : State) : applyEvents es (a.run s) = a.run (applyEvents es s) := by
  induction es generalizing s with
  | nil => rfl
  | cons e es ih => rw [applyEvents_cons, e.run_assign_comm h, ih, applyEvents_cons]

/-- No event reads what a bring-up assigns, so its assignments may stand behind its events. -/
theorem applyStmts_eq_assigns_after_events {l : List Stmt} (hl : l.all Stmt.straight = true)
    (ha : ∀ a, .assign a ∈ l → a.owner = .bringup) (s : State) :
    applyStmts l s = applyAssigns (assignsOf l) (applyEvents (eventsOf l) s) := by
  induction l generalizing s with
  | nil => rfl
  | cons st l ih =>
    rw [List.all_cons, Bool.and_eq_true] at hl
    obtain ⟨hst, hl⟩ := hl
    have hlater := ih hl fun a h => ha a (List.mem_cons_of_mem _ h)
    cases st with
    | emit e => exact hlater (e.run s)
    | assign a =>
      rw [applyStmts_assign, hlater, applyEvents_assign_comm (ha a List.mem_cons_self)]
      rfl
    | skipIf | complete => cases hst

/-! ## The pseudocode of `BRINGUP` (41_bringup.md R120) -/

/-- The pseudocode of `BRINGUP` up to its completion. -/
def bringupBody (cfg : Config.Params) : List Stmt :=
  cfgDisplay cfg ++ displayFrame cfg cfg.opSwreset [] ++
  [.assign (.buState .sleepInClear), .emit (.delay cfg.tResetUs), .assign (.buState .config)] ++
  initFrames cfg 0 cfg.initTable ++
  [.assign (.buState .sleepExit)] ++ displayFrame cfg cfg.opSlpout [] ++
  [.assign (.buState .settleSlpout), .emit (.delay cfg.tSlpoutUs), .assign (.buState .displayOn)] ++
  displayFrame cfg cfg.opDispon [] ++
  [.assign (.buState .settleDispon), .emit (.delay cfg.tDisponUs), .assign (.buState .done),
    .assign .buDone]

theorem bringupProgram_eq (s : State) : bringupProgram s = bringupBody s.cfg ++ [.complete] := by
  simp [bringupProgram, bringupBody]

theorem straight_initFrames (cfg : Config.Params) (i : Nat) (table : List Config.InitEntry) :
    (initFrames cfg i table).all Stmt.straight = true := by
  induction table generalizing i with
  | nil => rfl
  | cons entry table ih =>
    rw [initFrames, List.all_cons, List.all_append, displayFrame_eq_map_emit, straight_map_emit, ih]
    rfl

theorem straight_bringupBody (cfg : Config.Params) :
    (bringupBody cfg).all Stmt.straight = true := by
  simp only [bringupBody, cfgDisplay, displayFrame_eq_map_emit, List.all_append, straight_map_emit,
    straight_initFrames]
  rfl

/-! ## The events of `BRINGUP` -/

/-- The events of the configuration batch (41_bringup.md R122). -/
def batchEmits (cfg : Config.Params) (table : List Config.InitEntry) : List EmitStmt :=
  table.flatMap fun entry => displayFrameEmits cfg entry.op entry.params

/-- The events of a `BRINGUP`. -/
def bringupEmits (cfg : Config.Params) : List EmitStmt :=
  .spiCfg (displayConfig cfg) :: (displayFrameEmits cfg cfg.opSwreset [] ++ [.delay cfg.tResetUs] ++
    batchEmits cfg cfg.initTable ++ displayFrameEmits cfg cfg.opSlpout [] ++
    [.delay cfg.tSlpoutUs] ++ displayFrameEmits cfg cfg.opDispon [] ++ [.delay cfg.tDisponUs])

theorem eventsOf_initFrames (cfg : Config.Params) (i : Nat) (table : List Config.InitEntry) :
    eventsOf (initFrames cfg i table) = batchEmits cfg table := by
  induction table generalizing i with
  | nil => rfl
  | cons entry table ih =>
    rw [initFrames, eventsOf_assign, eventsOf_append, ih, displayFrame_eq_map_emit,
      eventsOf_map_emit, batchEmits, batchEmits, List.flatMap_cons]

theorem eventsOf_bringupBody (cfg : Config.Params) :
    eventsOf (bringupBody cfg) = bringupEmits cfg := by
  simp [bringupBody, cfgDisplay, displayFrame_eq_map_emit, eventsOf_initFrames, bringupEmits]

theorem sent_batchEmits (cfg : Config.Params) (table : List Config.InitEntry) :
    (batchEmits cfg table).map (EmitStmt.sent cfg) = batchEvents cfg table := by
  simp only [batchEmits, batchEvents, List.map_flatMap, sent_displayFrameEmits]

theorem sent_bringupEmits (cfg : Config.Params) :
    (bringupEmits cfg).map (EmitStmt.sent cfg) = bringupEvents cfg := by
  simp only [bringupEmits, bringupEvents, List.map_cons, List.map_append, sent_displayConfig,
    sent_displayFrameEmits, sent_batchEmits]
  rfl

/-- How many entries of a table have parameters. -/
def withParams (table : List Config.InitEntry) : Nat :=
  (table.filter fun entry => entry.params ≠ []).length

/-- How long a frame is, and what its events leave. -/
theorem displayFrameEmits_effect (cfg : Config.Params) (op : Byte) (params : List Byte) :
    let es := displayFrameEmits cfg op params
    es.all EmitStmt.storesNothing = true ∧
      es.length = 3 + 2 * (if params = [] then 0 else 1) ∧
      (∀ c, es.foldl EmitStmt.spiCfgAfter c = c) ∧
      (es.map EmitStmt.frames).sum = 1 + if params = [] then 0 else 1 := by
  cases params <;> exact ⟨rfl, rfl, fun _ => rfl, rfl⟩

/-- How long the configuration batch runs, and what its events leave. -/
theorem batchEmits_effect (cfg : Config.Params) (table : List Config.InitEntry) :
    let es := batchEmits cfg table
    es.all EmitStmt.storesNothing = true ∧ es.length = 3 * table.length + 2 * withParams table ∧
      (∀ c, es.foldl EmitStmt.spiCfgAfter c = c) ∧
      (es.map EmitStmt.frames).sum = table.length + withParams table := by
  induction table with
  | nil => exact ⟨rfl, rfl, fun _ => rfl, rfl⟩
  | cons entry table ih =>
    obtain ⟨hstores, hlength, hspi, hframes⟩ := ih
    obtain ⟨hstores', hlength', hspi', hframes'⟩ :=
      displayFrameEmits_effect cfg entry.op entry.params
    have happend : batchEmits cfg (entry :: table) =
        displayFrameEmits cfg entry.op entry.params ++ batchEmits cfg table := rfl
    have hcount : withParams (entry :: table) =
        withParams table + if entry.params = [] then 0 else 1 := by
      by_cases h : entry.params = [] <;> simp [withParams, h]
    simp only [happend, hcount, List.all_append, List.length_append, List.foldl_append,
      List.map_append, List.sum_append, List.length_cons, hstores, hstores', hlength, hlength',
      hspi, hspi', hframes, hframes']
    exact ⟨rfl, by omega, fun _ => trivial, by omega⟩

/-- How long a `BRINGUP` runs, and what its events leave. -/
theorem bringupEmits_effect (cfg : Config.Params) :
    let es := bringupEmits cfg
    es.all EmitStmt.storesNothing = true ∧
      es.length + 1 = 14 + 3 * cfg.initTable.length + 2 * withParams cfg.initTable ∧
      (∀ c, es.foldl EmitStmt.spiCfgAfter c = some (displayConfig cfg)) ∧
      (∀ d, es.foldl EmitStmt.dcOutAfter d = .cmd) ∧
      (es.map EmitStmt.frames).sum = 3 + cfg.initTable.length + withParams cfg.initTable := by
  obtain ⟨hstores, hlength, hspi, hframes⟩ := batchEmits_effect cfg cfg.initTable
  simp [bringupEmits, displayFrameEmits, hstores, hlength, hspi, hframes, EmitStmt.storesNothing,
    EmitStmt.spiCfgAfter, EmitStmt.dcOutAfter, EmitStmt.frames]
  omega

/-! ## The assignments of `BRINGUP` -/

theorem assignsOf_initFrames (cfg : Config.Params) (i : Nat) (table : List Config.InitEntry) :
    assignsOf (initFrames cfg i table) = (List.range' i table.length).map .buIdx := by
  induction table generalizing i with
  | nil => rfl
  | cons entry table ih =>
    rw [initFrames, assignsOf_assign, assignsOf_append, ih, displayFrame_eq_map_emit,
      assignsOf_map_emit]
    rfl

/-- `BU_IDX` counts through the table from the entry before `i` on (41_bringup.md R122). -/
theorem applyAssigns_buIdx_range (n i : Nat) {s : State} (h : s.buIdx = i - 1) :
    applyAssigns ((List.range' i n).map .buIdx) s = { s with buIdx := i + n - 1 } := by
  induction n generalizing i s with
  | zero => rw [Nat.add_zero, ← h]; rfl
  | succ n ih =>
    rw [List.range'_succ, List.map_cons, applyAssigns_cons, ih (i + 1) rfl, Nat.add_right_comm]
    rfl

theorem applyAssigns_append (as as' : List Assign) (s : State) :
    applyAssigns (as ++ as') s = applyAssigns as' (applyAssigns as s) := List.foldl_append ..

/-- Where a `BRINGUP` leaves its status, from `BU_IDX` 0 (41_bringup.md R121, R122). -/
theorem applyAssigns_bringupBody (cfg : Config.Params) {s : State} (h : s.buIdx = 0) :
    applyAssigns (assignsOf (bringupBody cfg)) s =
      { s with buState := .done, buDone := true, buIdx := cfg.initTable.length - 1 } := by
  simp only [bringupBody, cfgDisplay, displayFrame_eq_map_emit, assignsOf_append,
    assignsOf_map_emit, assignsOf_initFrames, applyAssigns_append, assignsOf_emit,
    assignsOf_assign, assignsOf_nil, applyAssigns_nil]
  rw [applyAssigns_buIdx_range _ 0
    (s := applyAssigns [.buState .sleepInClear, .buState .config] s) h, Nat.zero_add]
  simp only [applyAssigns_cons, applyAssigns_nil, Assign.run]

/-! ## A whole `BRINGUP` -/

theorem assign_mem_bringupBody {s : State} {a : Assign} (h : .assign a ∈ bringupBody s.cfg) :
    a.owner = .bringup :=
  assign_mem_bringupProgram (bringupProgram_eq s ▸ List.mem_append_left _ h)

theorem program_accepted_bringup (s : State) :
    program (accepted .bringup s) = bringupBody s.cfg ++ [.complete] :=
  bringupProgram_eq (accepted .bringup s)

/-- What the statements of a `BRINGUP` leave, from its acceptance on. -/
theorem applyStmts_bringupBody (s : State) :
    applyStmts (bringupBody s.cfg) (accepted .bringup s) =
      { applyEvents (bringupEmits s.cfg) (accepted .bringup s) with
        buState := .done, buDone := true, buIdx := s.cfg.initTable.length - 1 } := by
  obtain ⟨hstores, -⟩ := bringupEmits_effect s.cfg
  have hidx : (applyEvents (bringupEmits s.cfg) (accepted .bringup s)).buIdx = 0 := by
    rw [applyEvents_of_storesNothing hstores]; rfl
  rw [applyStmts_eq_assigns_after_events (straight_bringupBody _)
    (fun a => assign_mem_bringupBody (s := s)), eventsOf_bringupBody,
    applyAssigns_bringupBody _ hidx]

/-- Settles O37: the assignments leave the status, and the events what they leave of a command that
stores no answer. -/
theorem bringupRunsToCompletion : Obligations.BringupRunsToCompletion := by
  intro s hl hb
  obtain ⟨hstores, hlength, hspi, hdc, hframes⟩ := bringupEmits_effect s.cfg
  have hrun := runSequencer_straight_command (straight_bringupBody s.cfg)
    (s := accepted .bringup s) rfl rfl (program_accepted_bringup s)
  rw [eventsOf_bringupBody, hlength, applyStmts_bringupBody] at hrun
  have hsent : sentTrace (applyEvents (bringupEmits s.cfg) (accepted .bringup s)) =
      sentTrace s ++ bringupEvents s.cfg := by
    rw [← sent_bringupEmits]
    exact sentTrace_applyEvents (bringupEmits s.cfg) (accepted .bringup s)
  have ⟨_, _, ⟨hreset, hslpout, hdispon, _⟩, _⟩ := hl
  refine ⟨_, _, exec_accepted hl hb rfl, hrun, hsent, hreset, hslpout, hdispon, ?_⟩
  rw [applyEvents_of_storesNothing hstores, hspi, hdc, hframes]
  rfl

/-! ## The events of each `BU_STATE` (41_bringup.md R121) -/

theorem during_append {α : Type} (b : α) (es es' : List Sent) :
    during b (es ++ es') = during b es ++ during b es' := List.map_append

theorem statusLog_displayFrame (cfg : Config.Params) (op : Byte) (params : List Byte)
    (l : List Stmt) (b : BuState) (h : HsState) :
    statusLog cfg (displayFrame cfg op params ++ l) b h =
      during (b, h) (frameEvents cfg op params) ++ statusLog cfg l b h := by
  rw [← sent_displayFrameEmits, displayFrame_eq_map_emit]
  induction displayFrameEmits cfg op params with
  | nil => rfl
  | cons e es ih => exact congrArg (([e.sent cfg], b, h) :: ·) ih

/-- The configuration batch moves only `BU_IDX`. -/
theorem statusLog_initFrames (cfg : Config.Params) (i : Nat) (table : List Config.InitEntry)
    (l : List Stmt) (b : BuState) (h : HsState) :
    statusLog cfg (initFrames cfg i table ++ l) b h =
      during (b, h) (batchEvents cfg table) ++ statusLog cfg l b h := by
  induction table generalizing i with
  | nil => rfl
  | cons entry table ih =>
    have hbatch : batchEvents cfg (entry :: table) =
        frameEvents cfg entry.op entry.params ++ batchEvents cfg table := rfl
    rw [initFrames, List.cons_append, List.append_assoc, statusLog, statusLog_displayFrame, hbatch,
      during_append, List.append_assoc, ← ih]
    rfl

/-- The log of a `BRINGUP` without the states of the handshake. -/
theorem statusLog_bringupBody (cfg : Config.Params) (h : HsState) :
    (statusLog cfg (bringupBody cfg) .reset h).map (fun l => (l.1, l.2.1)) ++ [([], .done)] =
      bringupLog cfg := by
  simp [bringupBody, cfgDisplay, statusLog, statusLog_displayFrame, statusLog_initFrames,
    Assign.buStateAfter, Assign.hsStateAfter, bringupLog, during, EmitStmt.sent, displayCfgEvent,
    displayConfig, Function.comp_def]

/-- Settles O38: the log of the pseudocode is the list of R121, which says how long it is. -/
theorem bringupStatesFollowEvents : Obligations.BringupStatesFollowEvents := by
  intro s hl hb
  have hlog := runLog_straight_command (straight_bringupBody s.cfg)
    (s := accepted .bringup s) rfl rfl (program_accepted_bringup s)
  rw [applyStmts_bringupBody] at hlog
  replace hlog := (congrArg (List.map fun l => (l.1, l.2.1)) hlog).trans
    (List.map_append.trans (statusLog_bringupBody s.cfg s.hsState))
  have hlength := congrArg List.length hlog
  rw [List.length_map, length_runLog] at hlength
  exact ⟨accepted .bringup s, exec_accepted hl hb rfl, rfl, rfl, hlength ▸ hlog⟩

end Sys2Proof.Machine
end

section
/-! Proof of the statement of 42_fill.md about the window that `FILL` rejects (R142). -/

namespace Sys2Proof.Machine

/-- The check of `FILL` names an inverted window (42_fill.md R142). -/
theorem operandError_fill_of_inverted {s : State} (color : Half)
    (h : startCoord s.arg0 > endCoord s.arg0 ∨ startCoord s.arg1 > endCoord s.arg1) :
    operandError (.fill color) s = some .window := if_pos h

/-- Settles O11: the window check fails, and a failed operand check writes the error record only. -/
theorem invertedWindowRejected : Obligations.InvertedWindowRejected :=
  fun _ color hl hb hinv => exec_operandError hl hb (operandError_fill_of_inverted color hinv)

end Sys2Proof.Machine
end

section
/-! Proofs of the statements of 43_handshake.md: the events of each `HS_STATE` (R155, R163) and the
outcome of a `HANDSHAKE` (R155 to R159, R164, R166), for every answer of the devices. The answers
decide the tests, and with them the path through the pseudocode; a path has no tests. -/

namespace Sys2Proof.Machine

open Sys2Proof.Safety

/-! ## The path that a run takes through tests -/

/-- `TakesPath s l p`: from `s`, pseudocode `l` runs the events and assignments `p` and then
completes, each test decided where the run stands. -/
inductive TakesPath : State → List Stmt → List Stmt → Prop
  | done (s : State) (l : List Stmt) : TakesPath s (.complete :: l) []
  | straight {s : State} {l rest p : List Stmt} (hl : l.all Stmt.straight = true)
      (h : TakesPath (applyStmts l s) rest p) : TakesPath s (l ++ rest) (l ++ p)
  | holds {s : State} {t : Test} {body rest p : List Stmt} (ht : t.holds s = true)
      (h : TakesPath s rest p) : TakesPath s (ifFails t body ++ rest) p
  | fails {s : State} {t : Test} {body rest p : List Stmt} (ht : t.holds s = false)
      (h : TakesPath s (body ++ rest) p) : TakesPath s (ifFails t body ++ rest) p

theorem applyStmts_append (l l' : List Stmt) (s : State) :
    applyStmts (l ++ l') s = applyStmts l' (applyStmts l s) := List.foldl_append ..

@[simp] theorem applyStmts_cfg (l : List Stmt) (s : State) : (applyStmts l s).cfg = s.cfg := by
  induction l generalizing s with
  | nil => rfl
  | cons st l ih =>
    have hst : (st.run s).cfg = s.cfg := by
      cases st with
      | emit e => exact e.run_cfg s
      | assign a => exact applyAssigns_cfg [a] s
      | skipIf | complete => rfl
    exact (ih (st.run s)).trans hst

theorem runSequencer_add (j k : Nat) (s : State) :
    runSequencer (j + k) s = runSequencer k (runSequencer j s) := by
  induction j generalizing s with
  | zero => rw [Nat.zero_add]; rfl
  | succ j ih => rw [Nat.succ_add]; exact ih (sequencerStep s)

theorem StandsAt.append {s : State} {n : Nat} {l rest : List Stmt}
    (hl : l.all Stmt.straight = true) (h : StandsAt s n (l ++ rest)) :
    StandsAt (applyStmts l s) (n + l.length) rest := by
  induction l generalizing s n with
  | nil => exact h
  | cons st l ih =>
    rw [List.all_cons, Bool.and_eq_true] at hl
    obtain ⟨hst, hl⟩ := hl
    rw [List.length_cons, Nat.add_comm l.length 1, ← Nat.add_assoc]
    cases st with
    | emit e => exact ih hl h.emit
    | assign a => exact ih hl h.assign
    | skipIf | complete => cases hst

/-- Behind any statements stands what follows them. -/
theorem StandsAt.behind {s : State} {n : Nat} {l rest : List Stmt} (h : StandsAt s n (l ++ rest)) :
    StandsAt s (n + l.length) rest :=
  ⟨h.1, by rw [← List.drop_drop, h.2, List.drop_left]⟩

theorem runStmts_ifFails_of_holds {t : Test} {s : State} (ht : t.holds s = true)
    (body l : List Stmt) (n : Nat) :
    runStmts 0 (ifFails t body ++ l) n s = runStmts 0 l (n + (ifFails t body).length) s := by
  rw [ifFails, List.cons_append, runStmts_skipIf, if_pos ht, runStmts_skip_append,
    List.length_cons, Nat.add_assoc, Nat.add_comm 1]

theorem runStmts_ifFails_of_fails {t : Test} {s : State} (ht : t.holds s = false)
    (body l : List Stmt) (n : Nat) :
    runStmts 0 (ifFails t body ++ l) n s = runStmts 0 (body ++ l) (n + 1) s := by
  rw [ifFails, List.cons_append, runStmts_skipIf, if_neg (by simp [ht])]

theorem statusLog_append {l : List Stmt} (hl : l.all Stmt.straight = true) (l' : List Stmt)
    (s : State) : statusLog s.cfg (l ++ l') s.buState s.hsState =
      statusLog s.cfg l s.buState s.hsState ++
        statusLog (applyStmts l s).cfg l' (applyStmts l s).buState (applyStmts l s).hsState := by
  induction l generalizing s with
  | nil => rfl
  | cons st l ih =>
    rw [List.all_cons, Bool.and_eq_true] at hl
    obtain ⟨hst, hl⟩ := hl
    cases st with
    | emit e =>
      have hlater := ih hl (e.run s)
      rw [e.run_cfg, e.run_buState, e.run_hsState] at hlater
      exact congrArg (([e.sent s.cfg], s.buState, s.hsState) :: ·) hlater
    | assign a =>
      rw [List.cons_append, statusLog_assign, statusLog_assign]
      exact ih hl (a.run s)
    | skipIf | complete => cases hst

/-- The events of the path run one per step, the step behind the last completes, and the log is that
of the path with an entry without an event for the completion. -/
theorem TakesPath.run {s : State} {l p : List Stmt} (h : TakesPath s l p) {n : Nat}
    (hs : StandsAt s n l) :
    runSequencer (eventsOf p).length (runStmts 0 l n s) = complete (applyStmts p s) ∧
    logFrom s.trace (eventsOf p).length (runStmts 0 l n s) =
      statusLog s.cfg p s.buState s.hsState ++
        [([], (applyStmts p s).buState, (applyStmts p s).hsState)] := by
  induction h generalizing n with
  | done s l => exact ⟨rfl, by simp [logFrom, runLog, statusLog]⟩
  | @straight s l rest p hl _ ih =>
    obtain ⟨hrun, hlog⟩ := ih (hs.append hl)
    rw [eventsOf_append, List.length_append, applyStmts_append]
    constructor
    · rw [runSequencer_add, runSequencer_straight hl hs, hrun]
    · rw [logFrom_straight hl hs, hlog, statusLog_append hl, List.append_assoc]
  | holds ht _ ih =>
    rw [runStmts_ifFails_of_holds ht]
    exact ih hs.behind
  | @fails s t body rest p ht _ ih =>
    rw [runStmts_ifFails_of_fails ht]
    exact ih (hs.behind (l := [.skipIf t body.length]))

section
variable {s : State} {p : List Stmt} (hb : busy s = true) (hseq : s.seq = some 0)
  (hp : TakesPath s (program s) p)
include hb hseq hp

/-- A command takes one step per event of its path, and one more that completes. -/
theorem runSequencer_command_path :
    runSequencer ((eventsOf p).length + 1) s = complete (applyStmts p s) := by
  rw [runSequencer, sequencerStep_running hb hseq]
  exact (hp.run (n := 0) ⟨hb, rfl⟩).1

/-- The log of a command is that of its path, and an entry without an event for the completion. -/
theorem runLog_command_path :
    runLog ((eventsOf p).length + 1) s = statusLog s.cfg p s.buState s.hsState ++
      [([], (applyStmts p s).buState, (applyStmts p s).hsState)] := by
  rw [runLog_succ, sequencerStep_running hb hseq]
  exact (hp.run (n := 0) ⟨hb, rfl⟩).2

end

/-! ## The parts of `HANDSHAKE` between its tests (43_handshake.md R155) -/

/-- Steps 1 and 2: the preferred mode and its identity read. -/
def prefIdentity (cfg : Config.Params) : List Stmt :=
  [.assign (.touchMode .pref)] ++ cfgTouch cfg .pref ++ [.assign (.hsState .readId1)] ++ readId cfg

/-- The alternate mode and its identity read (R157). -/
def altIdentity (cfg : Config.Params) : List Stmt :=
  [.assign (.hsState .cfgAlt), .assign (.touchMode .alt), .assign .hsFallback] ++
  cfgTouch cfg .alt ++ [.assign (.hsState .readId2)] ++ readId cfg

/-- The sample of step 4 (R159). -/
def lineSample : List Stmt := [.assign (.hsState .checkIrq), .emit .sample]

/-- The assignments of a failed handshake (R158, R159). -/
def failing (r : HsResult) : List Stmt := [.assign (.hsResult r), .assign (.hsState .fail)]

/-- Steps 5 and 6 up to the completion (R160 to R162). -/
def passing (cfg : Config.Params) : List Stmt :=
  resetAndClock cfg ++ gpioAndBlink cfg ++ [.assign (.hsResult .pass), .assign (.hsState .pass)]

/-- The pseudocode from step 4 on. -/
def lineProgram (cfg : Config.Params) : List Stmt :=
  lineSample ++ (ifFails .levelIdle (failWith .failIrq) ++ (passing cfg ++ [.complete]))

theorem handshakeProgram_eq (s : State) : handshakeProgram s =
    prefIdentity s.cfg ++ (ifFails .idMatches (fallback s.cfg) ++ lineProgram s.cfg) := by
  simp [handshakeProgram, prefIdentity, lineProgram, lineSample, passing]

theorem fallback_eq (cfg : Config.Params) :
    fallback cfg = altIdentity cfg ++ ifFails .idMatches (failWith .failId) := rfl

/-! ## What an identity read answers (43_handshake.md R156) -/

/-- Answers to frames are taken in order (00_scope.md R12). -/
theorem comingByte_of_draws {s t : State} {n : Nat} (ha : t.frameAnswers = s.frameAnswers.drop n)
    (hd : t.frameDraws = s.frameDraws + n) (k : Nat) : comingByte t k = comingByte s (n + k) := by
  simp [comingByte, ha, hd, Nat.add_assoc]

/-- `u` is `s` behind an identity read, as far as the devices' answers go: both frames stored their
byte, the second the identity, and they took two answers. -/
structure IdentityRead (s u : State) : Prop where
  id : u.vars.id = comingId s 0
  chipId : u.chipId = comingId s 0
  rdata : u.rdata = comingByte s 1
  frameAnswers : u.frameAnswers = s.frameAnswers.drop 2
  frameDraws : u.frameDraws = s.frameDraws + 2
  levelAnswers : u.levelAnswers = s.levelAnswers
  levelDraws : u.levelDraws = s.levelDraws

/-- Byte 1 of the answer behind one frame. -/
theorem nextRx_byte_one_of_frame {s t : State} (ha : t.frameAnswers = s.frameAnswers.tail)
    (hd : t.frameDraws = s.frameDraws + 1) : (nextRx t).byte 1 = comingByte s 1 := by
  rw [nextRx_byte_one, comingByte_of_draws (ha.trans List.drop_one.symm) hd]

theorem identityRead_readId (cfg : Config.Params) (s : State) :
    IdentityRead s (applyStmts (readId cfg) s) := by
  simp only [readId, touchRead, List.cons_append, List.nil_append, applyStmts_emit, applyStmts_nil,
    EmitStmt.run, bindByte, emitXfer, emit]
  have htail : s.frameAnswers.tail.tail = s.frameAnswers.drop 2 := by
    rw [← List.drop_one, ← List.drop_one, List.drop_drop]
  have hid {lo : Byte} (hlo : lo = comingByte s 1) :
      identity ((nextRx s).byte 1) lo = comingId s 0 := by rw [hlo, nextRx_byte_one]; rfl
  exact ⟨hid (nextRx_byte_one_of_frame rfl rfl), hid (nextRx_byte_one_of_frame rfl rfl),
    nextRx_byte_one_of_frame rfl rfl, htail, rfl, rfl, rfl⟩

/-- An identity read behind statements that take no answer. -/
theorem IdentityRead.of_setup {s t u : State} (h : IdentityRead t u)
    (hframes : t.frameAnswers = s.frameAnswers) (hframe : t.frameDraws = s.frameDraws)
    (hlevels : t.levelAnswers = s.levelAnswers) (hlevel : t.levelDraws = s.levelDraws) :
    IdentityRead s u := by
  obtain ⟨hid, hchip, hrdata, hanswers, hdraws, hlanswers, hldraws⟩ := h
  have hbyte (k : Nat) : comingByte t k = comingByte s k := by
    rw [comingByte, comingByte, hframes, hframe]
  rw [comingId, hbyte, hbyte] at hid hchip
  rw [hbyte] at hrdata
  exact ⟨hid, hchip, hrdata, hframes ▸ hanswers, hframe ▸ hdraws, hlevels ▸ hlanswers,
    hlevel ▸ hldraws⟩

theorem applyStmts_cfgTouch (cfg : Config.Params) (m : TouchMode) (s : State) :
    applyStmts (cfgTouch cfg m) s = { s with
      spiCfg := some (touchConfig cfg m)
      trace := s.trace ++ [.spiCfg (touchConfig cfg m)] } := rfl

theorem identityRead_prefIdentity (cfg : Config.Params) (s : State) :
    IdentityRead s (applyStmts (prefIdentity cfg) s) := by
  simp only [prefIdentity, applyStmts_append, applyStmts_cfgTouch, applyStmts_assign,
    applyStmts_nil, Assign.run]
  exact (identityRead_readId cfg _).of_setup rfl rfl rfl rfl

theorem identityRead_altIdentity (cfg : Config.Params) (s : State) :
    IdentityRead s (applyStmts (altIdentity cfg) s) := by
  simp only [altIdentity, applyStmts_append, applyStmts_cfgTouch, applyStmts_assign,
    applyStmts_nil, Assign.run]
  exact (identityRead_readId cfg _).of_setup rfl rfl rfl rfl

section
variable {s u : State} (h : IdentityRead s u)
include h

theorem IdentityRead.comingByte (k : Nat) : comingByte u k = comingByte s (2 + k) :=
  comingByte_of_draws h.frameAnswers h.frameDraws k

theorem IdentityRead.comingId : comingId u 0 = comingId s 2 := by
  rw [Safety.comingId, Safety.comingId, h.comingByte, h.comingByte]

theorem IdentityRead.nextLevel : nextLevel u = nextLevel s := by
  rw [Machine.nextLevel, Machine.nextLevel, h.levelAnswers, h.levelDraws]

end

/-! ## What statements write beside the answers of the devices -/

/-- `s` with all that the devices' answers determine, and the trace, as in `u`. -/
def State.withAnswersOf (s u : State) : State :=
  { s with
    rdata := u.rdata, chipId := u.chipId, vars := u.vars, trace := u.trace
    frameAnswers := u.frameAnswers, frameDraws := u.frameDraws
    levelAnswers := u.levelAnswers, levelDraws := u.levelDraws }

/-- What a statement writes without the devices' answers and the trace. -/
def Stmt.settle (s : State) : Stmt → State
  | .assign a => a.run s
  | .emit (.spiCfg c) => { s with spiCfg := some c }
  | .emit (.dc d) => { s with dcOut := d }
  | .emit (.blinkXfer _) => { s with hsBlink := s.hsBlink + 1 }
  | _ => s

theorem Stmt.run_eq_settle (st : Stmt) (s : State) :
    st.run s = (st.settle s).withAnswersOf (st.run s) := by
  cases st with
  | emit e =>
    cases e with
    | touchRead tx dst => cases dst <;> rfl
    | _ => rfl
  | assign a => cases a <;> rfl
  | skipIf | complete => rfl

/-- No statement writes by the answers what it writes beside them. -/
theorem Stmt.settle_withAnswersOf (st : Stmt) (s u : State) :
    st.settle (s.withAnswersOf u) = (st.settle s).withAnswersOf u := by
  cases st with
  | emit e => cases e <;> rfl
  | assign a => cases a <;> rfl
  | skipIf | complete => rfl

/-- What statements one after the other write without the devices' answers and the trace. -/
def settleAll (l : List Stmt) (s : State) : State := l.foldl Stmt.settle s

@[simp] theorem settleAll_nil (s : State) : settleAll [] s = s := rfl

@[simp] theorem settleAll_cons (st : Stmt) (l : List Stmt) (s : State) :
    settleAll (st :: l) s = settleAll l (st.settle s) := rfl

theorem settleAll_withAnswersOf (l : List Stmt) (s u : State) :
    settleAll l (s.withAnswersOf u) = (settleAll l s).withAnswersOf u := by
  induction l generalizing s with
  | nil => rfl
  | cons st l ih =>
    rw [settleAll_cons, st.settle_withAnswersOf, ih, settleAll_cons]

/-- Beside the answers and the trace, statements leave what they settle. -/
theorem applyStmts_eq_settleAll (l : List Stmt) (s : State) :
    applyStmts l s = (settleAll l s).withAnswersOf (applyStmts l s) := by
  induction l generalizing s with
  | nil => rfl
  | cons st l ih =>
    have hlater := ih (st.run s)
    rw [st.run_eq_settle, settleAll_withAnswersOf, ← st.run_eq_settle] at hlater
    exact hlater

@[simp] theorem settleAll_append (l l' : List Stmt) (s : State) :
    settleAll (l ++ l') s = settleAll l' (settleAll l s) := List.foldl_append ..

/-- `HS_BLINK` counts two level changes per pair (R162). -/
theorem settleAll_blink (cfg : Config.Params) (k : Nat) (s : State) :
    settleAll (List.replicate k (blinkPair cfg)).flatten s =
      { s with hsBlink := s.hsBlink + 2 * k } := by
  induction k generalizing s with
  | zero => rfl
  | succ k ih =>
    rw [List.replicate_succ, List.flatten_cons, settleAll_append, ih]
    simp only [blinkPair, settleAll_cons, settleAll_nil, Stmt.settle]
    rw [Nat.mul_succ, Nat.add_comm (2 * k), ← Nat.add_assoc]

theorem settleAll_passing (cfg : Config.Params) (s : State) :
    settleAll (passing cfg) s =
      { s with hsResult := .pass, hsState := .pass, hsBlink := 2 * cfg.blinkPairs } := by
  simp [passing, resetAndClock, gpioAndBlink, touchWrite, settleAll_blink, Stmt.settle, Assign.run]

/-- Only touch reads store in `RDATA` and `CHIPID`. -/
theorem applyStmts_results {l : List Stmt} (h : ∀ tx dst, .emit (.touchRead tx dst) ∉ l)
    (s : State) : (applyStmts l s).rdata = s.rdata ∧ (applyStmts l s).chipId = s.chipId := by
  induction l generalizing s with
  | nil => exact ⟨rfl, rfl⟩
  | cons st l ih =>
    obtain ⟨hrdata, hchip⟩ :=
      ih (fun tx dst hmem => h tx dst (List.mem_cons_of_mem _ hmem)) (st.run s)
    have hst : (st.run s).rdata = s.rdata ∧ (st.run s).chipId = s.chipId := by
      cases st with
      | emit e =>
        cases e with
        | touchRead tx dst => exact absurd List.mem_cons_self (h tx dst)
        | _ => exact ⟨rfl, rfl⟩
      | assign a => cases a <;> exact ⟨rfl, rfl⟩
      | skipIf | complete => exact ⟨rfl, rfl⟩
    exact ⟨hrdata.trans hst.1, hchip.trans hst.2⟩

/-! ## The path of `HANDSHAKE` -/

/-- The path from step 4 on, by whether the line is idle. -/
def linePath (cfg : Config.Params) (idle : Bool) : List Stmt :=
  lineSample ++ if idle then passing cfg else failing .failIrq

/-- The path from the fallback on, by whether the second identity matches. -/
def fallbackPath (cfg : Config.Params) (second idle : Bool) : List Stmt :=
  altIdentity cfg ++ if second then linePath cfg idle else failing .failId

/-- The path of a whole handshake, by whether the first identity matches. -/
def handshakePath (cfg : Config.Params) (first second idle : Bool) : List Stmt :=
  prefIdentity cfg ++ if first then linePath cfg idle else fallbackPath cfg second idle

theorem straight_passing (cfg : Config.Params) : (passing cfg).all Stmt.straight = true := by
  simp [passing, resetAndClock, gpioAndBlink, touchWrite, blinkPair, Stmt.straight]

theorem takesPath_failWith (r : HsResult) (l : List Stmt) (s : State) :
    TakesPath s (failWith r ++ l) (failing r) :=
  .straight (l := failing r) (p := []) rfl (.done _ l)

theorem takesPath_passing (cfg : Config.Params) (s : State) :
    TakesPath s (passing cfg ++ [.complete]) (passing cfg) := by
  have h := TakesPath.straight (straight_passing cfg) (.done (applyStmts (passing cfg) s) [])
  rwa [List.append_nil] at h

section
variable {cfg : Config.Params} {s : State} (hcfg : s.cfg = cfg)
include hcfg

/-- The test behind an identity read compares that identity (R156). -/
theorem IdentityRead.holds_idMatches {u : State} (h : IdentityRead s u) (hu : u.cfg = s.cfg) :
    Test.idMatches.holds u = (Safety.comingId s 0 == cfg.chipIdExpected) := by
  rw [Test.holds, h.id, hu, hcfg]

/-- The level sampled decides step 4 (R159). -/
theorem takesPath_lineProgram :
    TakesPath s (lineProgram cfg) (linePath cfg (nextLevel s == cfg.irqIdleLevel)) := by
  refine .straight rfl ?_
  have ht : Test.levelIdle.holds (applyStmts lineSample s) =
      (nextLevel s == cfg.irqIdleLevel) := by
    rw [Test.holds, applyStmts_cfg, hcfg]; rfl
  cases hidle : nextLevel s == cfg.irqIdleLevel with
  | true => exact .holds (ht.trans hidle) (takesPath_passing cfg _)
  | false => exact .fails (ht.trans hidle) (takesPath_failWith ..)

/-- The second identity decides the retry (R157, R158). -/
theorem takesPath_fallback : TakesPath s (fallback cfg ++ lineProgram cfg)
    (fallbackPath cfg (comingId s 0 == cfg.chipIdExpected) (nextLevel s == cfg.irqIdleLevel)) := by
  rw [fallback_eq, List.append_assoc]
  refine .straight rfl ?_
  have hread := identityRead_altIdentity cfg s
  have ht := hread.holds_idMatches hcfg (applyStmts_cfg ..)
  cases hsecond : comingId s 0 == cfg.chipIdExpected with
  | true =>
    rw [← hread.nextLevel]
    exact .holds (ht.trans hsecond) (takesPath_lineProgram ((applyStmts_cfg ..).trans hcfg))
  | false => exact .fails (ht.trans hsecond) (takesPath_failWith ..)

/-- The first identity decides whether there is a fallback (R157). -/
theorem takesPath_handshakeProgram : TakesPath s (handshakeProgram s)
    (handshakePath cfg (comingId s 0 == cfg.chipIdExpected) (comingId s 2 == cfg.chipIdExpected)
      (nextLevel s == cfg.irqIdleLevel)) := by
  rw [handshakeProgram_eq, hcfg]
  refine .straight rfl ?_
  have hread := identityRead_prefIdentity cfg s
  have ht := hread.holds_idMatches hcfg (applyStmts_cfg ..)
  have hcfg' := (applyStmts_cfg (prefIdentity cfg) s).trans hcfg
  rw [← hread.comingId, ← hread.nextLevel]
  cases hfirst : comingId s 0 == cfg.chipIdExpected with
  | true => exact .holds (ht.trans hfirst) (takesPath_lineProgram hcfg')
  | false => exact .fails (ht.trans hfirst) (takesPath_fallback hcfg')

end

/-! ## Where the path leads -/

theorem settleAll_prefIdentity (cfg : Config.Params) (s : State) :
    settleAll (prefIdentity cfg) s = { s with
      touchMode := .pref, hsState := .readId1, spiCfg := some (touchConfig cfg .pref) } := by
  simp [prefIdentity, cfgTouch, readId, touchRead, Stmt.settle, Assign.run]

theorem settleAll_altIdentity (cfg : Config.Params) (s : State) :
    settleAll (altIdentity cfg) s = { s with
      touchMode := .alt, hsState := .readId2, hsFallback := true
      spiCfg := some (touchConfig cfg .alt) } := by
  simp [altIdentity, cfgTouch, readId, touchRead, Stmt.settle, Assign.run]

theorem settleAll_linePath (cfg : Config.Params) (idle : Bool) (s : State) :
    settleAll (linePath cfg idle) s = { s with
      hsResult := if idle then .pass else .failIrq, hsState := if idle then .pass else .fail
      hsBlink := if idle then 2 * cfg.blinkPairs else s.hsBlink } := by
  cases idle <;> simp [linePath, lineSample, failing, settleAll_passing, Stmt.settle, Assign.run]

/-- The outcome of a handshake beside the devices' answers (R155, R164). -/
theorem settleAll_handshakePath (cfg : Config.Params) (first second idle : Bool) {s : State}
    (h : s.hsFallback = false) :
    settleAll (handshakePath cfg first second idle) s = { s with
      hsResult := if !first && !second then .failId else if !idle then .failIrq else .pass
      hsState := if (first || second) && idle then .pass else .fail
      hsFallback := !first, touchMode := if first then .pref else .alt
      spiCfg := some
        { mode := if first then cfg.modePref else cfg.modeAlt
          div := cfg.touchDiv, cs := cfg.touchCs }
      hsBlink := if (first || second) && idle then 2 * cfg.blinkPairs else s.hsBlink } := by
  rw [handshakePath, settleAll_append, settleAll_prefIdentity]
  cases first with
  | true => cases idle <;> simp [settleAll_linePath, touchConfig, touchSpiMode, h]
  | false =>
    rw [if_neg Bool.false_ne_true, fallbackPath, settleAll_append, settleAll_altIdentity]
    cases second with
    | true => cases idle <;> simp [settleAll_linePath, touchConfig, touchSpiMode]
    | false => simp [failing, Stmt.settle, Assign.run, touchConfig, touchSpiMode]

theorem touchRead_notMem_linePath (cfg : Config.Params) (idle : Bool) (tx : Burst) (dst : Bind) :
    .emit (.touchRead tx dst) ∉ linePath cfg idle := by
  cases idle <;> simp [linePath, lineSample, failing, passing, resetAndClock, gpioAndBlink,
    touchWrite, blinkPair]

/-- `RDATA` and `CHIPID` are those of the last identity read (R156, R165). -/
theorem applyStmts_handshakePath_results (cfg : Config.Params) (first second idle : Bool)
    (s : State) :
    let u := applyStmts (handshakePath cfg first second idle) s
    u.rdata = (if first then comingByte s 1 else comingByte s 3) ∧
      u.chipId = if first then comingId s 0 else comingId s 2 := by
  rw [handshakePath, applyStmts_append]
  have hpref := identityRead_prefIdentity cfg s
  cases first with
  | true =>
    obtain ⟨hrdata, hchip⟩ :=
      applyStmts_results (touchRead_notMem_linePath cfg idle) (applyStmts (prefIdentity cfg) s)
    exact ⟨hrdata.trans hpref.rdata, hchip.trans hpref.chipId⟩
  | false =>
    rw [if_neg Bool.false_ne_true, fallbackPath, applyStmts_append]
    have halt := identityRead_altIdentity cfg (applyStmts (prefIdentity cfg) s)
    obtain ⟨hrdata, hchip⟩ := applyStmts_results
      (l := if second then linePath cfg idle else failing .failId)
      (fun tx dst => by cases second <;> simp [touchRead_notMem_linePath, failing])
      (applyStmts (altIdentity cfg) (applyStmts (prefIdentity cfg) s))
    exact ⟨hrdata.trans (halt.rdata.trans (hpref.comingByte 1)),
      hchip.trans (halt.chipId.trans hpref.comingId)⟩

/-! ## The log of the path (R163) -/

/-- The log of statements without the states of the bring-up. -/
def hsLog (cfg : Config.Params) (l : List Stmt) (b : BuState) (h : HsState) :
    List (List Sent × HsState) :=
  (statusLog cfg l b h).map fun entry => (entry.1, entry.2.2)

@[simp] theorem hsLog_nil (cfg : Config.Params) (b : BuState) (h : HsState) :
    hsLog cfg [] b h = [] := rfl

@[simp] theorem hsLog_emit (cfg : Config.Params) (e : EmitStmt) (l : List Stmt) (b : BuState)
    (h : HsState) : hsLog cfg (.emit e :: l) b h = ([e.sent cfg], h) :: hsLog cfg l b h := rfl

@[simp] theorem hsLog_assign (cfg : Config.Params) (a : Assign) (l : List Stmt) (b : BuState)
    (h : HsState) :
    hsLog cfg (.assign a :: l) b h = hsLog cfg l (a.buStateAfter b) (a.hsStateAfter h) := rfl

/-- The blink stays in its state (R162, R163). -/
theorem hsLog_blink (cfg : Config.Params) (k : Nat) (l : List Stmt) (b : BuState) (h : HsState) :
    hsLog cfg ((List.replicate k (blinkPair cfg)).flatten ++ l) b h =
      during h (List.replicate k (blinkEvents cfg)).flatten ++ hsLog cfg l b h := by
  induction k with
  | zero => rfl
  | succ k ih =>
    rw [List.replicate_succ, List.flatten_cons, List.append_assoc, List.replicate_succ,
      List.flatten_cons, during_append, List.append_assoc, ← ih]
    simp [blinkPair, during, blinkEvents, EmitStmt.sent, touchWriteFrame, writeEvent]

theorem hsLog_readId (cfg : Config.Params) (l : List Stmt) (b : BuState) (h : HsState) :
    hsLog cfg (readId cfg ++ l) b h = during h (idEvents cfg) ++ hsLog cfg l b h := by
  simp [readId, touchRead, during, idEvents, EmitStmt.sent, touchReadFrame, readEvent]

theorem hsLog_passing (cfg : Config.Params) (b : BuState) (h : HsState) :
    hsLog cfg (passing cfg) b h =
      during .softReset [writeEvent cfg.tregSysCtrl1 cfg.tvalSoftreset] ++
        during .clkEn [writeEvent cfg.tregSysCtrl2 cfg.tvalClken] ++
        during .gpioCfg
          [writeEvent cfg.tregGpioAf cfg.tvalGpioAf, writeEvent cfg.tregGpioDir cfg.tvalGpioDir] ++
        during .blink (List.replicate cfg.blinkPairs (blinkEvents cfg)).flatten := by
  simp [passing, resetAndClock, gpioAndBlink, touchWrite, hsLog_blink, Assign.hsStateAfter, during,
    EmitStmt.sent, touchWriteFrame, writeEvent]

theorem hsLog_linePath (cfg : Config.Params) (idle : Bool) (b : BuState) (h : HsState) :
    hsLog cfg (linePath cfg idle) b h =
      during .checkIrq [.irqSample] ++
        if idle then hsLog cfg (passing cfg) b .checkIrq else [] := by
  cases idle <;> rfl

theorem hsLog_fallbackPath (cfg : Config.Params) (second idle : Bool) (b : BuState) (h : HsState) :
    hsLog cfg (fallbackPath cfg second idle) b h =
      during .cfgAlt [touchCfgEvent cfg .alt] ++ during .readId2 (idEvents cfg) ++
        if second then hsLog cfg (linePath cfg idle) b .readId2 else [] := by
  cases second <;> simp [fallbackPath, altIdentity, cfgTouch, failing, hsLog_readId, during,
    Assign.hsStateAfter, Assign.buStateAfter, sent_touchConfig]

/-- The log of a handshake up to its completion, and the completion (R155, R163). -/
theorem hsLog_handshakePath (cfg : Config.Params) (first second idle : Bool) (b : BuState) :
    hsLog cfg (handshakePath cfg first second idle) b .cfgPref ++
        [([], if (first || second) && idle then .pass else .fail)] =
      handshakeLog cfg first second idle := by
  have hpref : hsLog cfg (handshakePath cfg first second idle) b .cfgPref =
      during .cfgPref [touchCfgEvent cfg .pref] ++ during .readId1 (idEvents cfg) ++
        hsLog cfg (if first then linePath cfg idle else fallbackPath cfg second idle) b
          .readId1 := by
    simp [handshakePath, prefIdentity, cfgTouch, hsLog_readId, during, Assign.hsStateAfter,
      Assign.buStateAfter, sent_touchConfig]
  rw [hpref, handshakeLog]
  cases first with
  | true => cases idle <;> simp [hsLog_linePath, hsLog_passing]
  | false =>
    cases second with
    | true => cases idle <;> simp [hsLog_fallbackPath, hsLog_linePath, hsLog_passing]
    | false => simp [hsLog_fallbackPath]

/-! ## A whole `HANDSHAKE` -/

/-- The path of an accepted handshake, for the answers that lie ahead. -/
theorem takesPath_accepted_handshake (s : State) :
    TakesPath (accepted .handshake s) (program (accepted .handshake s))
      (handshakePath s.cfg (comingId s 0 == s.cfg.chipIdExpected)
        (comingId s 2 == s.cfg.chipIdExpected) (nextLevel s == s.cfg.irqIdleLevel)) :=
  takesPath_handshakeProgram (s := accepted .handshake s) rfl

/-- On its path an accepted handshake runs as many steps as its log of R155 and R163 is long. -/
theorem runs_accepted_handshake (s : State) {first second idle : Bool}
    (hp : TakesPath (accepted .handshake s) (program (accepted .handshake s))
      (handshakePath s.cfg first second idle)) :
    (runLog (handshakeLog s.cfg first second idle).length (accepted .handshake s)).map
        (fun entry => (entry.1, entry.2.2)) = handshakeLog s.cfg first second idle ∧
      runSequencer (handshakeLog s.cfg first second idle).length (accepted .handshake s) =
        complete (applyStmts (handshakePath s.cfg first second idle) (accepted .handshake s)) := by
  have hlast : (applyStmts (handshakePath s.cfg first second idle)
      (accepted .handshake s)).hsState = if (first || second) && idle then .pass else .fail := by
    rw [applyStmts_eq_settleAll, settleAll_handshakePath _ _ _ _ rfl]
    rfl
  have hlog := congrArg (List.map fun entry => (entry.1, entry.2.2))
    (runLog_command_path rfl rfl hp)
  rw [List.map_append, List.map_singleton, hlast] at hlog
  replace hlog := hlog.trans (hsLog_handshakePath s.cfg first second idle s.buState)
  have hlength := congrArg List.length hlog
  rw [List.length_map, length_runLog] at hlength
  rw [← hlength]
  exact ⟨hlog, runSequencer_command_path rfl rfl hp⟩

/-- Settles O39: the log of the path that the answers decide is the list of R155 and R163. -/
theorem handshakeStatesFollowEvents : Obligations.HandshakeStatesFollowEvents := by
  intro s hl hb
  obtain ⟨hlog, -⟩ := runs_accepted_handshake s (takesPath_accepted_handshake s)
  exact ⟨accepted .handshake s, _, exec_accepted hl hb rfl, rfl, rfl, rfl, hlog⟩

/-- Settles O40: the path leaves what it settles, and the answers of its last identity read. -/
theorem handshakeOutcome : Obligations.HandshakeOutcome := by
  intro s first second idle hl hb hfirst hsecond hidle
  have hp := takesPath_accepted_handshake s
  rw [← hfirst, ← hsecond, ← hidle] at hp
  obtain ⟨-, hrun⟩ := runs_accepted_handshake s hp
  obtain ⟨hrdata, hchip⟩ :=
    applyStmts_handshakePath_results s.cfg first second idle (accepted .handshake s)
  have hleft := applyStmts_eq_settleAll (handshakePath s.cfg first second idle)
    (accepted .handshake s)
  rw [settleAll_handshakePath _ _ _ _ rfl, State.withAnswersOf, hrdata, hchip] at hleft
  exact ⟨_, _, exec_accepted hl hb rfl, hrun, congrArg complete hleft⟩

end Sys2Proof.Machine
end

section
/-! Proof of the statement of 60_exceptions.md: a command while one runs is rejected with `E_BUSY`
(R182, and R203 of 70_reset_and_hazards.md). -/

namespace Sys2Proof.Machine

/-- Settles O8: `E_BUSY` comes before the operand check in the order of 40_framing.md R90, so that
neither the command nor its operands matter. -/
theorem busyRejectsEveryCommand : Obligations.BusyRejectsEveryCommand := by
  intro s i hl hb
  rw [exec_eq_submit, submit_busy hl hb, reject]

end Sys2Proof.Machine
end

section
/-! Proofs of the statements of 70_reset_and_hazards.md: what the reset input leaves (R200, R201), and
the state the machine starts in (R200, R20). -/

namespace Sys2Proof.Machine

theorem step_of_reset {s : State} (hl : s.cfg.Legal) (ht : nextTurn s = .reset) :
    step s = .next (assertReset (takeTurn s)) := by
  unfold step machineStep
  rw [if_pos hl, ht]

@[simp] theorem ParamRegs.get_zero (k : Fin 8) : ParamRegs.zero.get k = 0#32 := by
  fin_cases k <;> rfl

theorem statusWord_reset : statusWord State.reset = 0#32 := by decide

/-- `STATUS` reads neither the configuration nor anything else that the reset input keeps. -/
theorem statusWord_assertReset (s : State) : statusWord (assertReset s) = statusWord State.reset :=
  rfl

theorem readReg_reset (r : HostReg) : readReg r State.reset = 0#32 := by
  cases r with
  | status => exact statusWord_reset
  | param k => exact ParamRegs.get_zero k
  | cmd | arg0 | arg1 | rdata | chipId | reserved => rfl

/-- R7's values meet the constraints of R8, which speak of none of the OPEN ones. -/
theorem defaults_legal : Config.defaults.Legal := by decide

/-- Settles O17: the fields of `STATUS` make the word 0 together, and the rest is read off the state. -/
theorem resetInputLeavesResetValues : Obligations.ResetInputLeavesResetValues := by
  intro s hl ht
  refine ⟨_, step_of_reset hl ht, ?_⟩
  rw [statusWord_assertReset, statusWord_reset]
  simp [assertReset, State.reset]

/-- Settles O18. -/
theorem resetReadsZeroEverywhere : Obligations.ResetReadsZeroEverywhere :=
  ⟨rfl, rfl, defaults_legal, fun _ r _ => readReg_reset r⟩

/-- Settles O50: `State.reset` is what the reset input makes of itself, in a legal configuration; the
other three invariants ask nothing of it but its reset values. -/
theorem resetMeetsInvariants : Obligations.ResetMeetsInvariants :=
  ⟨inv_assertReset (s := State.reset) defaults_legal, rfl, rfl, rfl⟩

end Sys2Proof.Machine
end
